-- ==== Sys2Proof/Word.lean ====
section
/-! DEFINITION. The widths of the block's words (R8, R11, `00_scope.md`) and the plainest arithmetic on them.

Nothing here carries a rule of the spec: what a bit field holds, how a counter counts and how a frame is assembled stand in
`Sys2Proof/Machine/`. -/

namespace Sys2Proof

/-- A host register word, 32 bits (R70). -/
abbrev Word := BitVec 32

/-- A byte offset of the 4096-byte register window (R70). -/
abbrev Offset := BitVec 12

/-- A timestamp or a field register, 64 bits (`TS_BITS`, `MAX_FIELD_BITS` of R8). -/
abbrev Word64 := BitVec 64

/-- `MAX_FRAME_BITS` = 256 bits of a frame or a transmission; bit `i` is arrival index `i` (R11, R30). -/
abbrev FrameBits := BitVec 256

/-- One bit per ButtonId, bit `b` for ButtonId `b` (R25, R43). -/
abbrev ButtonMask := BitVec 10

end Sys2Proof
end

