-- ==== Sys2Proof/Syntax.lean ====
section
/-! DEFINITION. The operation words of the block (R90) and the ONE inductive of its operations, a constructor for each row of
`spec/opcode_table.json`, in the table's order within each group; a docstring gives the row's mnemonic and the rule of its
meaning. Operands: `w` is the 32-bit data of a host write, `off` the 12-bit offset of a row that covers several. -/

namespace Sys2Proof

/-- An operation word, of one of the three encoded classes of R90. -/
inductive OpWord where
  /-- A host write, the 44-bit value `off · 2^32 + data` (R91). -/
  | hostWrite (t : BitVec 44)
  /-- A host read, its 12-bit offset (R91). -/
  | hostRead (off : Offset)
  /-- A bus event, the five-bit event word (R98). -/
  | busEvent (e : BitVec 5)
  deriving DecidableEq, Repr

/-- The operations of the block: the rows of the opcode table (R115). -/
inductive Instr where
  -- Configuration and control writes (`46_configuration_control.md`, `42_field_bank_and_reads.md`)
  /-- WR_CFG (R280). -/
  | wrCfg (w : Word)
  /-- WR_CTRL__START (R282). -/
  | wrCtrlStart (w : Word)
  /-- WR_CTRL__no_START (R282). -/
  | wrCtrlNoStart (w : Word)
  /-- WR_STATUS (R287). -/
  | wrStatus (w : Word)
  /-- WR_BTN_ENABLE (R286). -/
  | wrBtnEnable (w : Word)
  /-- WR_DELIVERED (R288). -/
  | wrDelivered (w : Word)
  /-- WR_FAILED (R289). -/
  | wrFailed (w : Word)
  /-- WR_SNAP (R174). -/
  | wrSnap (w : Word)
  -- Legal command words written to CMD (R93; `43_command_injector.md`)
  /-- PRESS_heater (R193). -/
  | pressHeater
  /-- PRESS_filter (R193). -/
  | pressFilter
  /-- PRESS_bubbles (R193). -/
  | pressBubbles
  /-- PRESS_jets (R193). -/
  | pressJets
  /-- PRESS_lock (R193). -/
  | pressLock
  /-- PRESS_power (R193). -/
  | pressPower
  /-- PRESS_unit (R193). -/
  | pressUnit
  /-- PRESS_timer (R193). -/
  | pressTimer
  /-- PRESS_up (R193). -/
  | pressUp
  /-- PRESS_down (R193). -/
  | pressDown
  /-- HOLD_heater (R194). -/
  | holdHeater
  /-- HOLD_filter (R194). -/
  | holdFilter
  /-- HOLD_bubbles (R194). -/
  | holdBubbles
  /-- HOLD_jets (R194). -/
  | holdJets
  /-- HOLD_lock (R194). -/
  | holdLock
  /-- HOLD_power (R194). -/
  | holdPower
  /-- HOLD_unit (R194). -/
  | holdUnit
  /-- HOLD_timer (R194). -/
  | holdTimer
  /-- HOLD_up (R194). -/
  | holdUp
  /-- HOLD_down (R194). -/
  | holdDown
  /-- RELEASE_heater (R195). -/
  | releaseHeater
  /-- RELEASE_filter (R195). -/
  | releaseFilter
  /-- RELEASE_bubbles (R195). -/
  | releaseBubbles
  /-- RELEASE_jets (R195). -/
  | releaseJets
  /-- RELEASE_lock (R195). -/
  | releaseLock
  /-- RELEASE_power (R195). -/
  | releasePower
  /-- RELEASE_unit (R195). -/
  | releaseUnit
  /-- RELEASE_timer (R195). -/
  | releaseTimer
  /-- RELEASE_up (R195). -/
  | releaseUp
  /-- RELEASE_down (R195). -/
  | releaseDown
  -- Illegal command words written to CMD (R93; R192 step 1). A word that fits several rows of the table is the first such row's (log 10)
  /-- WR_CMD_illegal__ACTION_3 (R192). -/
  | wrCmdIllegalAction3 (button : BitVec 4)
  /-- WR_CMD_illegal__BUTTON_10..11 (R192). -/
  | wrCmdIllegalButton10 (action : BitVec 2) (low : BitVec 1)
  /-- WR_CMD_illegal__BUTTON_12..15 (R192). -/
  | wrCmdIllegalButton12 (action : BitVec 2) (low : BitVec 2)
  /-- WR_CMD_illegal__bit_6_set (R192). -/
  | wrCmdIllegalBit6 (w : Word)
  /-- WR_CMD_illegal__bit_7_set (R192). -/
  | wrCmdIllegalBit7 (w : Word)
  /-- WR_CMD_illegal__bit_8_set (R192). -/
  | wrCmdIllegalBit8 (w : Word)
  /-- WR_CMD_illegal__bit_9_set (R192). -/
  | wrCmdIllegalBit9 (w : Word)
  /-- WR_CMD_illegal__bit_10_set (R192). -/
  | wrCmdIllegalBit10 (w : Word)
  /-- WR_CMD_illegal__bit_11_set (R192). -/
  | wrCmdIllegalBit11 (w : Word)
  /-- WR_CMD_illegal__bit_12_set (R192). -/
  | wrCmdIllegalBit12 (w : Word)
  /-- WR_CMD_illegal__bit_13_set (R192). -/
  | wrCmdIllegalBit13 (w : Word)
  /-- WR_CMD_illegal__bit_14_set (R192). -/
  | wrCmdIllegalBit14 (w : Word)
  /-- WR_CMD_illegal__bit_15_set (R192). -/
  | wrCmdIllegalBit15 (w : Word)
  /-- WR_CMD_illegal__bit_16_set (R192). -/
  | wrCmdIllegalBit16 (w : Word)
  /-- WR_CMD_illegal__bit_17_set (R192). -/
  | wrCmdIllegalBit17 (w : Word)
  /-- WR_CMD_illegal__bit_18_set (R192). -/
  | wrCmdIllegalBit18 (w : Word)
  /-- WR_CMD_illegal__bit_19_set (R192). -/
  | wrCmdIllegalBit19 (w : Word)
  /-- WR_CMD_illegal__bit_20_set (R192). -/
  | wrCmdIllegalBit20 (w : Word)
  /-- WR_CMD_illegal__bit_21_set (R192). -/
  | wrCmdIllegalBit21 (w : Word)
  /-- WR_CMD_illegal__bit_22_set (R192). -/
  | wrCmdIllegalBit22 (w : Word)
  /-- WR_CMD_illegal__bit_23_set (R192). -/
  | wrCmdIllegalBit23 (w : Word)
  /-- WR_CMD_illegal__bit_24_set (R192). -/
  | wrCmdIllegalBit24 (w : Word)
  /-- WR_CMD_illegal__bit_25_set (R192). -/
  | wrCmdIllegalBit25 (w : Word)
  /-- WR_CMD_illegal__bit_26_set (R192). -/
  | wrCmdIllegalBit26 (w : Word)
  /-- WR_CMD_illegal__bit_27_set (R192). -/
  | wrCmdIllegalBit27 (w : Word)
  /-- WR_CMD_illegal__bit_28_set (R192). -/
  | wrCmdIllegalBit28 (w : Word)
  /-- WR_CMD_illegal__bit_29_set (R192). -/
  | wrCmdIllegalBit29 (w : Word)
  /-- WR_CMD_illegal__bit_30_set (R192). -/
  | wrCmdIllegalBit30 (w : Word)
  /-- WR_CMD_illegal__bit_31_set (R192). -/
  | wrCmdIllegalBit31 (w : Word)
  -- Writes to read-only registers, ignored (R74)
  /-- WR_INVALID_COUNT__read-only__ignored (R74). -/
  | wrInvalidCountIgnored (w : Word)
  /-- WR_ERR_CAUSE__read-only__ignored (R74). -/
  | wrErrCauseIgnored (w : Word)
  /-- WR_SLOT_PENDING__read-only__ignored (R74). -/
  | wrSlotPendingIgnored (w : Word)
  /-- WR_SLOT_HOLDING__read-only__ignored (R74). -/
  | wrSlotHoldingIgnored (w : Word)
  /-- WR_SNAP_NOW_LO__read-only__ignored (R74). -/
  | wrSnapNowLoIgnored (w : Word)
  /-- WR_SNAP_NOW_HI__read-only__ignored (R74). -/
  | wrSnapNowHiIgnored (w : Word)
  /-- WR_SNAP_LAST_UPDATE_LO__read-only__ignored (R74). -/
  | wrSnapLastUpdateLoIgnored (w : Word)
  /-- WR_SNAP_LAST_UPDATE_HI__read-only__ignored (R74). -/
  | wrSnapLastUpdateHiIgnored (w : Word)
  /-- WR_SNAP_VALID__read-only__ignored (R74). -/
  | wrSnapValidIgnored (w : Word)
  /-- WR_SNAP_FIELD_LO_0___read-only__ignored (R74). -/
  | wrSnapFieldLo0Ignored (w : Word)
  /-- WR_SNAP_FIELD_HI_0___read-only__ignored (R74). -/
  | wrSnapFieldHi0Ignored (w : Word)
  /-- WR_SNAP_FIELD_LO_1___read-only__ignored (R74). -/
  | wrSnapFieldLo1Ignored (w : Word)
  /-- WR_SNAP_FIELD_HI_1___read-only__ignored (R74). -/
  | wrSnapFieldHi1Ignored (w : Word)
  /-- WR_SNAP_FIELD_LO_2___read-only__ignored (R74). -/
  | wrSnapFieldLo2Ignored (w : Word)
  /-- WR_SNAP_FIELD_HI_2___read-only__ignored (R74). -/
  | wrSnapFieldHi2Ignored (w : Word)
  /-- WR_SNAP_FIELD_LO_3___read-only__ignored (R74). -/
  | wrSnapFieldLo3Ignored (w : Word)
  /-- WR_SNAP_FIELD_HI_3___read-only__ignored (R74). -/
  | wrSnapFieldHi3Ignored (w : Word)
  /-- WR_SNAP_FIELD_LO_4___read-only__ignored (R74). -/
  | wrSnapFieldLo4Ignored (w : Word)
  /-- WR_SNAP_FIELD_HI_4___read-only__ignored (R74). -/
  | wrSnapFieldHi4Ignored (w : Word)
  /-- WR_SNAP_FIELD_LO_5___read-only__ignored (R74). -/
  | wrSnapFieldLo5Ignored (w : Word)
  /-- WR_SNAP_FIELD_HI_5___read-only__ignored (R74). -/
  | wrSnapFieldHi5Ignored (w : Word)
  /-- WR_SNAP_FIELD_LO_6___read-only__ignored (R74). -/
  | wrSnapFieldLo6Ignored (w : Word)
  /-- WR_SNAP_FIELD_HI_6___read-only__ignored (R74). -/
  | wrSnapFieldHi6Ignored (w : Word)
  /-- WR_SNAP_FIELD_LO_7___read-only__ignored (R74). -/
  | wrSnapFieldLo7Ignored (w : Word)
  /-- WR_SNAP_FIELD_HI_7___read-only__ignored (R74). -/
  | wrSnapFieldHi7Ignored (w : Word)
  /-- WR_SNAP_FIELD_LO_8___read-only__ignored (R74). -/
  | wrSnapFieldLo8Ignored (w : Word)
  /-- WR_SNAP_FIELD_HI_8___read-only__ignored (R74). -/
  | wrSnapFieldHi8Ignored (w : Word)
  /-- WR_SNAP_FIELD_LO_9___read-only__ignored (R74). -/
  | wrSnapFieldLo9Ignored (w : Word)
  /-- WR_SNAP_FIELD_HI_9___read-only__ignored (R74). -/
  | wrSnapFieldHi9Ignored (w : Word)
  /-- WR_SNAP_FIELD_LO_10___read-only__ignored (R74). -/
  | wrSnapFieldLo10Ignored (w : Word)
  /-- WR_SNAP_FIELD_HI_10___read-only__ignored (R74). -/
  | wrSnapFieldHi10Ignored (w : Word)
  -- Reserved offsets: writes are ignored, reads give 0 (R74)
  /-- WR_reserved_0x044..0x044__ignored (R74). -/
  | wrReserved044 (w : Word)
  /-- RD_reserved_0x044..0x044__reads_0 (R74). -/
  | rdReserved044
  /-- WR_reserved_0x048..0x04C__ignored (R74). -/
  | wrReserved048 (off : Offset) (w : Word)
  /-- RD_reserved_0x048..0x04C__reads_0 (R74). -/
  | rdReserved048 (off : Offset)
  /-- WR_reserved_0x050..0x05C__ignored (R74). -/
  | wrReserved050 (off : Offset) (w : Word)
  /-- RD_reserved_0x050..0x05C__reads_0 (R74). -/
  | rdReserved050 (off : Offset)
  /-- WR_reserved_0x060..0x07C__ignored (R74). -/
  | wrReserved060 (off : Offset) (w : Word)
  /-- RD_reserved_0x060..0x07C__reads_0 (R74). -/
  | rdReserved060 (off : Offset)
  /-- WR_reserved_0x0D8..0x0DC__ignored (R74). -/
  | wrReserved0D8 (off : Offset) (w : Word)
  /-- RD_reserved_0x0D8..0x0DC__reads_0 (R74). -/
  | rdReserved0D8 (off : Offset)
  /-- WR_reserved_0x0E0..0x0FC__ignored (R74). -/
  | wrReserved0E0 (off : Offset) (w : Word)
  /-- RD_reserved_0x0E0..0x0FC__reads_0 (R74). -/
  | rdReserved0E0 (off : Offset)
  /-- WR_reserved_0x100..0x1FC__ignored (R74). -/
  | wrReserved100 (off : Offset) (w : Word)
  /-- RD_reserved_0x100..0x1FC__reads_0 (R74). -/
  | rdReserved100 (off : Offset)
  /-- WR_reserved_0x200..0x3FC__ignored (R74). -/
  | wrReserved200 (off : Offset) (w : Word)
  /-- RD_reserved_0x200..0x3FC__reads_0 (R74). -/
  | rdReserved200 (off : Offset)
  /-- WR_reserved_0x400..0x7FC__ignored (R74). -/
  | wrReserved400 (off : Offset) (w : Word)
  /-- RD_reserved_0x400..0x7FC__reads_0 (R74). -/
  | rdReserved400 (off : Offset)
  /-- WR_reserved_0x800..0xFFC__ignored (R74). -/
  | wrReserved800 (off : Offset) (w : Word)
  /-- RD_reserved_0x800..0xFFC__reads_0 (R74). -/
  | rdReserved800 (off : Offset)
  -- Transactions at an offset that is not a multiple of 4, refused (R72)
  /-- WR_misaligned__off_0__1__refused (R72). -/
  | wrMisalignedOff0 (off : Offset) (w : Word)
  /-- RD_misaligned__off_0__1__refused (R72). -/
  | rdMisalignedOff0 (off : Offset)
  /-- WR_misaligned__off_1__1__refused (R72). -/
  | wrMisalignedOff1 (off : Offset) (w : Word)
  /-- RD_misaligned__off_1__1__refused (R72). -/
  | rdMisalignedOff1 (off : Offset)
  -- Host reads (`42_field_bank_and_reads.md`)
  /-- RD_CFG (R177). -/
  | rdCfg
  /-- RD_CTRL (R189). -/
  | rdCtrl
  /-- RD_STATUS (R178). -/
  | rdStatus
  /-- RD_INVALID_COUNT (R179). -/
  | rdInvalidCount
  /-- RD_ERR_CAUSE (R180). -/
  | rdErrCause
  /-- RD_BTN_ENABLE (R181). -/
  | rdBtnEnable
  /-- RD_CMD (R189). -/
  | rdCmd
  /-- RD_SLOT_PENDING (R182). -/
  | rdSlotPending
  /-- RD_SLOT_HOLDING (R183). -/
  | rdSlotHolding
  /-- RD_DELIVERED (R184). -/
  | rdDelivered
  /-- RD_FAILED (R185). -/
  | rdFailed
  /-- RD_SNAP (R189). -/
  | rdSnap
  /-- RD_SNAP_NOW_LO (R186). -/
  | rdSnapNowLo
  /-- RD_SNAP_NOW_HI (R186). -/
  | rdSnapNowHi
  /-- RD_SNAP_LAST_UPDATE_LO (R187). -/
  | rdSnapLastUpdateLo
  /-- RD_SNAP_LAST_UPDATE_HI (R187). -/
  | rdSnapLastUpdateHi
  /-- RD_SNAP_VALID (R188). -/
  | rdSnapValid
  /-- RD_SNAP_FIELD_LO_0 (R175). -/
  | rdSnapFieldLo0
  /-- RD_SNAP_FIELD_HI_0 (R175). -/
  | rdSnapFieldHi0
  /-- RD_SNAP_FIELD_LO_1 (R175). -/
  | rdSnapFieldLo1
  /-- RD_SNAP_FIELD_HI_1 (R175). -/
  | rdSnapFieldHi1
  /-- RD_SNAP_FIELD_LO_2 (R175). -/
  | rdSnapFieldLo2
  /-- RD_SNAP_FIELD_HI_2 (R175). -/
  | rdSnapFieldHi2
  /-- RD_SNAP_FIELD_LO_3 (R175). -/
  | rdSnapFieldLo3
  /-- RD_SNAP_FIELD_HI_3 (R175). -/
  | rdSnapFieldHi3
  /-- RD_SNAP_FIELD_LO_4 (R175). -/
  | rdSnapFieldLo4
  /-- RD_SNAP_FIELD_HI_4 (R175). -/
  | rdSnapFieldHi4
  /-- RD_SNAP_FIELD_LO_5 (R175). -/
  | rdSnapFieldLo5
  /-- RD_SNAP_FIELD_HI_5 (R175). -/
  | rdSnapFieldHi5
  /-- RD_SNAP_FIELD_LO_6 (R175). -/
  | rdSnapFieldLo6
  /-- RD_SNAP_FIELD_HI_6 (R175). -/
  | rdSnapFieldHi6
  /-- RD_SNAP_FIELD_LO_7 (R175). -/
  | rdSnapFieldLo7
  /-- RD_SNAP_FIELD_HI_7 (R175). -/
  | rdSnapFieldHi7
  /-- RD_SNAP_FIELD_LO_8 (R175). -/
  | rdSnapFieldLo8
  /-- RD_SNAP_FIELD_HI_8 (R175). -/
  | rdSnapFieldHi8
  /-- RD_SNAP_FIELD_LO_9 (R175). -/
  | rdSnapFieldLo9
  /-- RD_SNAP_FIELD_HI_9 (R175). -/
  | rdSnapFieldHi9
  /-- RD_SNAP_FIELD_LO_10 (R175). -/
  | rdSnapFieldLo10
  /-- RD_SNAP_FIELD_HI_10 (R175). -/
  | rdSnapFieldHi10
  -- Bus events: the five-bit event word of R98, with its free bits as operands
  /-- IDLE_LINE (R125). -/
  | idleLine (kPrev : Bool) (kCur : Bool) (d : Bool)
  /-- CS_ASSERT (R142). -/
  | csAssert (kPrev : Bool) (kCur : Bool) (d : Bool)
  /-- CS_DEASSERT (R147). -/
  | csDeassert (kPrev : Bool) (kCur : Bool) (d : Bool)
  /-- BIT(d) (R144). -/
  | bit (d : Bool)
  /-- HELD_INACTIVE (R145). -/
  | heldInactive (d : Bool)
  /-- HELD_RETURN (R145). -/
  | heldReturn (d : Bool)
  /-- HELD_ACTIVE (R145). -/
  | heldActive (d : Bool)
  deriving DecidableEq, Repr

end Sys2Proof
end

