-- ==== Sys2Proof/WellFormed.lean ====
section
/-! DEFINITION. Which terms of `Instr` stand for a word: the operand lies in its row of the opcode table, and in no earlier
row that the decoder prefers (log 10). Every other constructor's operands are its row's free bits, so they have no check. -/

namespace Sys2Proof

/-- The instruction's operands are values its row's encoding admits (R91, R93, R95, R72, R74). -/
def Instr.wf : Instr → Bool
  | .wrCfg _ => true
  | .wrCtrlStart w => w.getLsbD 0
  | .wrCtrlNoStart w => !w.getLsbD 0
  | .wrStatus _ => true
  | .wrBtnEnable _ => true
  | .wrDelivered _ => true
  | .wrFailed _ => true
  | .wrSnap _ => true
  | .pressHeater => true
  | .pressFilter => true
  | .pressBubbles => true
  | .pressJets => true
  | .pressLock => true
  | .pressPower => true
  | .pressUnit => true
  | .pressTimer => true
  | .pressUp => true
  | .pressDown => true
  | .holdHeater => true
  | .holdFilter => true
  | .holdBubbles => true
  | .holdJets => true
  | .holdLock => true
  | .holdPower => true
  | .holdUnit => true
  | .holdTimer => true
  | .holdUp => true
  | .holdDown => true
  | .releaseHeater => true
  | .releaseFilter => true
  | .releaseBubbles => true
  | .releaseJets => true
  | .releaseLock => true
  | .releasePower => true
  | .releaseUnit => true
  | .releaseTimer => true
  | .releaseUp => true
  | .releaseDown => true
  | .wrCmdIllegalAction3 _ => true
  | .wrCmdIllegalButton10 action _ => action != 3
  | .wrCmdIllegalButton12 action _ => action != 3
  | .wrCmdIllegalBit6 w => w.getLsbD 6
  | .wrCmdIllegalBit7 w => w.getLsbD 7 && w.extractLsb' 6 1 == 0
  | .wrCmdIllegalBit8 w => w.getLsbD 8 && w.extractLsb' 6 2 == 0
  | .wrCmdIllegalBit9 w => w.getLsbD 9 && w.extractLsb' 6 3 == 0
  | .wrCmdIllegalBit10 w => w.getLsbD 10 && w.extractLsb' 6 4 == 0
  | .wrCmdIllegalBit11 w => w.getLsbD 11 && w.extractLsb' 6 5 == 0
  | .wrCmdIllegalBit12 w => w.getLsbD 12 && w.extractLsb' 6 6 == 0
  | .wrCmdIllegalBit13 w => w.getLsbD 13 && w.extractLsb' 6 7 == 0
  | .wrCmdIllegalBit14 w => w.getLsbD 14 && w.extractLsb' 6 8 == 0
  | .wrCmdIllegalBit15 w => w.getLsbD 15 && w.extractLsb' 6 9 == 0
  | .wrCmdIllegalBit16 w => w.getLsbD 16 && w.extractLsb' 6 10 == 0
  | .wrCmdIllegalBit17 w => w.getLsbD 17 && w.extractLsb' 6 11 == 0
  | .wrCmdIllegalBit18 w => w.getLsbD 18 && w.extractLsb' 6 12 == 0
  | .wrCmdIllegalBit19 w => w.getLsbD 19 && w.extractLsb' 6 13 == 0
  | .wrCmdIllegalBit20 w => w.getLsbD 20 && w.extractLsb' 6 14 == 0
  | .wrCmdIllegalBit21 w => w.getLsbD 21 && w.extractLsb' 6 15 == 0
  | .wrCmdIllegalBit22 w => w.getLsbD 22 && w.extractLsb' 6 16 == 0
  | .wrCmdIllegalBit23 w => w.getLsbD 23 && w.extractLsb' 6 17 == 0
  | .wrCmdIllegalBit24 w => w.getLsbD 24 && w.extractLsb' 6 18 == 0
  | .wrCmdIllegalBit25 w => w.getLsbD 25 && w.extractLsb' 6 19 == 0
  | .wrCmdIllegalBit26 w => w.getLsbD 26 && w.extractLsb' 6 20 == 0
  | .wrCmdIllegalBit27 w => w.getLsbD 27 && w.extractLsb' 6 21 == 0
  | .wrCmdIllegalBit28 w => w.getLsbD 28 && w.extractLsb' 6 22 == 0
  | .wrCmdIllegalBit29 w => w.getLsbD 29 && w.extractLsb' 6 23 == 0
  | .wrCmdIllegalBit30 w => w.getLsbD 30 && w.extractLsb' 6 24 == 0
  | .wrCmdIllegalBit31 w => w.getLsbD 31 && w.extractLsb' 6 25 == 0
  | .wrInvalidCountIgnored _ => true
  | .wrErrCauseIgnored _ => true
  | .wrSlotPendingIgnored _ => true
  | .wrSlotHoldingIgnored _ => true
  | .wrSnapNowLoIgnored _ => true
  | .wrSnapNowHiIgnored _ => true
  | .wrSnapLastUpdateLoIgnored _ => true
  | .wrSnapLastUpdateHiIgnored _ => true
  | .wrSnapValidIgnored _ => true
  | .wrSnapFieldLo0Ignored _ => true
  | .wrSnapFieldHi0Ignored _ => true
  | .wrSnapFieldLo1Ignored _ => true
  | .wrSnapFieldHi1Ignored _ => true
  | .wrSnapFieldLo2Ignored _ => true
  | .wrSnapFieldHi2Ignored _ => true
  | .wrSnapFieldLo3Ignored _ => true
  | .wrSnapFieldHi3Ignored _ => true
  | .wrSnapFieldLo4Ignored _ => true
  | .wrSnapFieldHi4Ignored _ => true
  | .wrSnapFieldLo5Ignored _ => true
  | .wrSnapFieldHi5Ignored _ => true
  | .wrSnapFieldLo6Ignored _ => true
  | .wrSnapFieldHi6Ignored _ => true
  | .wrSnapFieldLo7Ignored _ => true
  | .wrSnapFieldHi7Ignored _ => true
  | .wrSnapFieldLo8Ignored _ => true
  | .wrSnapFieldHi8Ignored _ => true
  | .wrSnapFieldLo9Ignored _ => true
  | .wrSnapFieldHi9Ignored _ => true
  | .wrSnapFieldLo10Ignored _ => true
  | .wrSnapFieldHi10Ignored _ => true
  | .wrReserved044 _ => true
  | .rdReserved044 => true
  | .wrReserved048 off _ => off &&& 0xFFB#12 == 0x048#12
  | .rdReserved048 off => off &&& 0xFFB#12 == 0x048#12
  | .wrReserved050 off _ => off &&& 0xFF3#12 == 0x050#12
  | .rdReserved050 off => off &&& 0xFF3#12 == 0x050#12
  | .wrReserved060 off _ => off &&& 0xFE3#12 == 0x060#12
  | .rdReserved060 off => off &&& 0xFE3#12 == 0x060#12
  | .wrReserved0D8 off _ => off &&& 0xFFB#12 == 0x0D8#12
  | .rdReserved0D8 off => off &&& 0xFFB#12 == 0x0D8#12
  | .wrReserved0E0 off _ => off &&& 0xFE3#12 == 0x0E0#12
  | .rdReserved0E0 off => off &&& 0xFE3#12 == 0x0E0#12
  | .wrReserved100 off _ => off &&& 0xF03#12 == 0x100#12
  | .rdReserved100 off => off &&& 0xF03#12 == 0x100#12
  | .wrReserved200 off _ => off &&& 0xE03#12 == 0x200#12
  | .rdReserved200 off => off &&& 0xE03#12 == 0x200#12
  | .wrReserved400 off _ => off &&& 0xC03#12 == 0x400#12
  | .rdReserved400 off => off &&& 0xC03#12 == 0x400#12
  | .wrReserved800 off _ => off &&& 0x803#12 == 0x800#12
  | .rdReserved800 off => off &&& 0x803#12 == 0x800#12
  | .wrMisalignedOff0 off _ => off.getLsbD 0
  | .rdMisalignedOff0 off => off.getLsbD 0
  | .wrMisalignedOff1 off _ => !off.getLsbD 0 && off.getLsbD 1
  | .rdMisalignedOff1 off => !off.getLsbD 0 && off.getLsbD 1
  | .rdCfg => true
  | .rdCtrl => true
  | .rdStatus => true
  | .rdInvalidCount => true
  | .rdErrCause => true
  | .rdBtnEnable => true
  | .rdCmd => true
  | .rdSlotPending => true
  | .rdSlotHolding => true
  | .rdDelivered => true
  | .rdFailed => true
  | .rdSnap => true
  | .rdSnapNowLo => true
  | .rdSnapNowHi => true
  | .rdSnapLastUpdateLo => true
  | .rdSnapLastUpdateHi => true
  | .rdSnapValid => true
  | .rdSnapFieldLo0 => true
  | .rdSnapFieldHi0 => true
  | .rdSnapFieldLo1 => true
  | .rdSnapFieldHi1 => true
  | .rdSnapFieldLo2 => true
  | .rdSnapFieldHi2 => true
  | .rdSnapFieldLo3 => true
  | .rdSnapFieldHi3 => true
  | .rdSnapFieldLo4 => true
  | .rdSnapFieldHi4 => true
  | .rdSnapFieldLo5 => true
  | .rdSnapFieldHi5 => true
  | .rdSnapFieldLo6 => true
  | .rdSnapFieldHi6 => true
  | .rdSnapFieldLo7 => true
  | .rdSnapFieldHi7 => true
  | .rdSnapFieldLo8 => true
  | .rdSnapFieldHi8 => true
  | .rdSnapFieldLo9 => true
  | .rdSnapFieldHi9 => true
  | .rdSnapFieldLo10 => true
  | .rdSnapFieldHi10 => true
  | .idleLine _ _ _ => true
  | .csAssert _ _ _ => true
  | .csDeassert _ _ _ => true
  | .bit _ => true
  | .heldInactive _ => true
  | .heldReturn _ => true
  | .heldActive _ => true

end Sys2Proof
end

