-- ==== Sys2Proof/Decode.lean ====
section
/-! DEFINITION. The decoder, total on the words of each class (every 44-bit write value, every 12-bit read offset and every
five-bit event word is some row's, R91, R98), and the encoder, both written from `30_encoding.md` and the masks of
`spec/opcode_table.json`. Bits of a length that is no class's, or too many, are rejected by name (`OpWord.ofBits`). Where a
word fits several rows it is the first such row's (log 10). -/

namespace Sys2Proof

/-- The event word `{a_prev, k_prev, a_cur, k_cur, d}` of R98, `a_prev` in bit 4 and `d` in bit 0. -/
def eventBits (aPrev kPrev aCur kCur d : Bool) : BitVec 5 :=
  BitVec.ofBool aPrev ++ (BitVec.ofBool kPrev ++ (BitVec.ofBool aCur ++ (BitVec.ofBool kCur ++ BitVec.ofBool d)))

/-- WR CTRL with START (bit 0 set) or without it (R95). -/
def decodeCtrl (w : Word) : Instr :=
  if w.getLsbD 0 then .wrCtrlStart w else .wrCtrlNoStart w

/-- A word written to CMD (R92, R93): the 30 legal words, then the illegal rows. -/
def decodeCmd (w : Word) : Instr :=
  if w = 0x00000000#32 then .pressHeater
  else if w = 0x00000001#32 then .pressFilter
  else if w = 0x00000002#32 then .pressBubbles
  else if w = 0x00000003#32 then .pressJets
  else if w = 0x00000004#32 then .pressLock
  else if w = 0x00000005#32 then .pressPower
  else if w = 0x00000006#32 then .pressUnit
  else if w = 0x00000007#32 then .pressTimer
  else if w = 0x00000008#32 then .pressUp
  else if w = 0x00000009#32 then .pressDown
  else if w = 0x00000010#32 then .holdHeater
  else if w = 0x00000011#32 then .holdFilter
  else if w = 0x00000012#32 then .holdBubbles
  else if w = 0x00000013#32 then .holdJets
  else if w = 0x00000014#32 then .holdLock
  else if w = 0x00000015#32 then .holdPower
  else if w = 0x00000016#32 then .holdUnit
  else if w = 0x00000017#32 then .holdTimer
  else if w = 0x00000018#32 then .holdUp
  else if w = 0x00000019#32 then .holdDown
  else if w = 0x00000020#32 then .releaseHeater
  else if w = 0x00000021#32 then .releaseFilter
  else if w = 0x00000022#32 then .releaseBubbles
  else if w = 0x00000023#32 then .releaseJets
  else if w = 0x00000024#32 then .releaseLock
  else if w = 0x00000025#32 then .releasePower
  else if w = 0x00000026#32 then .releaseUnit
  else if w = 0x00000027#32 then .releaseTimer
  else if w = 0x00000028#32 then .releaseUp
  else if w = 0x00000029#32 then .releaseDown
  else if w &&& 0xFFFFFFF0#32 = 0x00000030#32 then .wrCmdIllegalAction3 (w.extractLsb' 0 4)
  else if w &&& 0xFFFFFFCE#32 = 0x0000000A#32 then .wrCmdIllegalButton10 (w.extractLsb' 4 2) (w.extractLsb' 0 1)
  else if w &&& 0xFFFFFFCC#32 = 0x0000000C#32 then .wrCmdIllegalButton12 (w.extractLsb' 4 2) (w.extractLsb' 0 2)
  else if w.getLsbD 6 then .wrCmdIllegalBit6 w
  else if w.getLsbD 7 then .wrCmdIllegalBit7 w
  else if w.getLsbD 8 then .wrCmdIllegalBit8 w
  else if w.getLsbD 9 then .wrCmdIllegalBit9 w
  else if w.getLsbD 10 then .wrCmdIllegalBit10 w
  else if w.getLsbD 11 then .wrCmdIllegalBit11 w
  else if w.getLsbD 12 then .wrCmdIllegalBit12 w
  else if w.getLsbD 13 then .wrCmdIllegalBit13 w
  else if w.getLsbD 14 then .wrCmdIllegalBit14 w
  else if w.getLsbD 15 then .wrCmdIllegalBit15 w
  else if w.getLsbD 16 then .wrCmdIllegalBit16 w
  else if w.getLsbD 17 then .wrCmdIllegalBit17 w
  else if w.getLsbD 18 then .wrCmdIllegalBit18 w
  else if w.getLsbD 19 then .wrCmdIllegalBit19 w
  else if w.getLsbD 20 then .wrCmdIllegalBit20 w
  else if w.getLsbD 21 then .wrCmdIllegalBit21 w
  else if w.getLsbD 22 then .wrCmdIllegalBit22 w
  else if w.getLsbD 23 then .wrCmdIllegalBit23 w
  else if w.getLsbD 24 then .wrCmdIllegalBit24 w
  else if w.getLsbD 25 then .wrCmdIllegalBit25 w
  else if w.getLsbD 26 then .wrCmdIllegalBit26 w
  else if w.getLsbD 27 then .wrCmdIllegalBit27 w
  else if w.getLsbD 28 then .wrCmdIllegalBit28 w
  else if w.getLsbD 29 then .wrCmdIllegalBit29 w
  else if w.getLsbD 30 then .wrCmdIllegalBit30 w
  else .wrCmdIllegalBit31 w

/-- A host write of `w` at `off` (R91): misaligned offsets, the listed registers of R60, the reserved offsets. -/
def decodeWrite (off : Offset) (w : Word) : Instr :=
  if off.getLsbD 0 then .wrMisalignedOff0 off w
  else if off.getLsbD 1 then .wrMisalignedOff1 off w
  else if off = 0x000#12 then .wrCfg w
  else if off = 0x004#12 then decodeCtrl w
  else if off = 0x008#12 then .wrStatus w
  else if off = 0x00C#12 then .wrInvalidCountIgnored w
  else if off = 0x010#12 then .wrErrCauseIgnored w
  else if off = 0x014#12 then .wrBtnEnable w
  else if off = 0x018#12 then decodeCmd w
  else if off = 0x01C#12 then .wrSlotPendingIgnored w
  else if off = 0x020#12 then .wrSlotHoldingIgnored w
  else if off = 0x024#12 then .wrDelivered w
  else if off = 0x028#12 then .wrFailed w
  else if off = 0x02C#12 then .wrSnap w
  else if off = 0x030#12 then .wrSnapNowLoIgnored w
  else if off = 0x034#12 then .wrSnapNowHiIgnored w
  else if off = 0x038#12 then .wrSnapLastUpdateLoIgnored w
  else if off = 0x03C#12 then .wrSnapLastUpdateHiIgnored w
  else if off = 0x040#12 then .wrSnapValidIgnored w
  else if off = 0x080#12 then .wrSnapFieldLo0Ignored w
  else if off = 0x084#12 then .wrSnapFieldHi0Ignored w
  else if off = 0x088#12 then .wrSnapFieldLo1Ignored w
  else if off = 0x08C#12 then .wrSnapFieldHi1Ignored w
  else if off = 0x090#12 then .wrSnapFieldLo2Ignored w
  else if off = 0x094#12 then .wrSnapFieldHi2Ignored w
  else if off = 0x098#12 then .wrSnapFieldLo3Ignored w
  else if off = 0x09C#12 then .wrSnapFieldHi3Ignored w
  else if off = 0x0A0#12 then .wrSnapFieldLo4Ignored w
  else if off = 0x0A4#12 then .wrSnapFieldHi4Ignored w
  else if off = 0x0A8#12 then .wrSnapFieldLo5Ignored w
  else if off = 0x0AC#12 then .wrSnapFieldHi5Ignored w
  else if off = 0x0B0#12 then .wrSnapFieldLo6Ignored w
  else if off = 0x0B4#12 then .wrSnapFieldHi6Ignored w
  else if off = 0x0B8#12 then .wrSnapFieldLo7Ignored w
  else if off = 0x0BC#12 then .wrSnapFieldHi7Ignored w
  else if off = 0x0C0#12 then .wrSnapFieldLo8Ignored w
  else if off = 0x0C4#12 then .wrSnapFieldHi8Ignored w
  else if off = 0x0C8#12 then .wrSnapFieldLo9Ignored w
  else if off = 0x0CC#12 then .wrSnapFieldHi9Ignored w
  else if off = 0x0D0#12 then .wrSnapFieldLo10Ignored w
  else if off = 0x0D4#12 then .wrSnapFieldHi10Ignored w
  else if off = 0x044#12 then .wrReserved044 w
  else if off &&& 0xFFB#12 = 0x048#12 then .wrReserved048 off w
  else if off &&& 0xFF3#12 = 0x050#12 then .wrReserved050 off w
  else if off &&& 0xFE3#12 = 0x060#12 then .wrReserved060 off w
  else if off &&& 0xFFB#12 = 0x0D8#12 then .wrReserved0D8 off w
  else if off &&& 0xFE3#12 = 0x0E0#12 then .wrReserved0E0 off w
  else if off &&& 0xF03#12 = 0x100#12 then .wrReserved100 off w
  else if off &&& 0xE03#12 = 0x200#12 then .wrReserved200 off w
  else if off &&& 0xC03#12 = 0x400#12 then .wrReserved400 off w
  else .wrReserved800 off w

/-- A host read at `off` (R91). -/
def decodeRead (off : Offset) : Instr :=
  if off.getLsbD 0 then .rdMisalignedOff0 off
  else if off.getLsbD 1 then .rdMisalignedOff1 off
  else if off = 0x000#12 then .rdCfg
  else if off = 0x004#12 then .rdCtrl
  else if off = 0x008#12 then .rdStatus
  else if off = 0x00C#12 then .rdInvalidCount
  else if off = 0x010#12 then .rdErrCause
  else if off = 0x014#12 then .rdBtnEnable
  else if off = 0x018#12 then .rdCmd
  else if off = 0x01C#12 then .rdSlotPending
  else if off = 0x020#12 then .rdSlotHolding
  else if off = 0x024#12 then .rdDelivered
  else if off = 0x028#12 then .rdFailed
  else if off = 0x02C#12 then .rdSnap
  else if off = 0x030#12 then .rdSnapNowLo
  else if off = 0x034#12 then .rdSnapNowHi
  else if off = 0x038#12 then .rdSnapLastUpdateLo
  else if off = 0x03C#12 then .rdSnapLastUpdateHi
  else if off = 0x040#12 then .rdSnapValid
  else if off = 0x080#12 then .rdSnapFieldLo0
  else if off = 0x084#12 then .rdSnapFieldHi0
  else if off = 0x088#12 then .rdSnapFieldLo1
  else if off = 0x08C#12 then .rdSnapFieldHi1
  else if off = 0x090#12 then .rdSnapFieldLo2
  else if off = 0x094#12 then .rdSnapFieldHi2
  else if off = 0x098#12 then .rdSnapFieldLo3
  else if off = 0x09C#12 then .rdSnapFieldHi3
  else if off = 0x0A0#12 then .rdSnapFieldLo4
  else if off = 0x0A4#12 then .rdSnapFieldHi4
  else if off = 0x0A8#12 then .rdSnapFieldLo5
  else if off = 0x0AC#12 then .rdSnapFieldHi5
  else if off = 0x0B0#12 then .rdSnapFieldLo6
  else if off = 0x0B4#12 then .rdSnapFieldHi6
  else if off = 0x0B8#12 then .rdSnapFieldLo7
  else if off = 0x0BC#12 then .rdSnapFieldHi7
  else if off = 0x0C0#12 then .rdSnapFieldLo8
  else if off = 0x0C4#12 then .rdSnapFieldHi8
  else if off = 0x0C8#12 then .rdSnapFieldLo9
  else if off = 0x0CC#12 then .rdSnapFieldHi9
  else if off = 0x0D0#12 then .rdSnapFieldLo10
  else if off = 0x0D4#12 then .rdSnapFieldHi10
  else if off = 0x044#12 then .rdReserved044
  else if off &&& 0xFFB#12 = 0x048#12 then .rdReserved048 off
  else if off &&& 0xFF3#12 = 0x050#12 then .rdReserved050 off
  else if off &&& 0xFE3#12 = 0x060#12 then .rdReserved060 off
  else if off &&& 0xFFB#12 = 0x0D8#12 then .rdReserved0D8 off
  else if off &&& 0xFE3#12 = 0x0E0#12 then .rdReserved0E0 off
  else if off &&& 0xF03#12 = 0x100#12 then .rdReserved100 off
  else if off &&& 0xE03#12 = 0x200#12 then .rdReserved200 off
  else if off &&& 0xC03#12 = 0x400#12 then .rdReserved400 off
  else .rdReserved800 off

/-- The event an event word stands for, in the order of the tests of R125. -/
def decodeEvent (e : BitVec 5) : Instr :=
  let aPrev := e.getLsbD 4
  let kPrev := e.getLsbD 3
  let aCur := e.getLsbD 2
  let kCur := e.getLsbD 1
  let d := e.getLsbD 0
  if !aPrev && aCur then .csAssert kPrev kCur d
  else if aPrev && !aCur then .csDeassert kPrev kCur d
  else if aPrev && aCur && !kPrev && kCur then .bit d
  else if !aPrev && !aCur then .idleLine kPrev kCur d
  else if aPrev && aCur && !kPrev && !kCur then .heldInactive d
  else if aPrev && aCur && kPrev && !kCur then .heldReturn d
  else .heldActive d

/-- The operation an operation word stands for. -/
def decode : OpWord → Instr
  | .hostWrite t => decodeWrite (t.extractLsb' 32 12) (t.extractLsb' 0 32)
  | .hostRead off => decodeRead off
  | .busEvent e => decodeEvent e

/-- The operation word of an instruction (R91, R93, R98). -/
def encode : Instr → OpWord
  | .wrCfg w => .hostWrite (0x000#12 ++ w)
  | .wrCtrlStart w => .hostWrite (0x004#12 ++ w)
  | .wrCtrlNoStart w => .hostWrite (0x004#12 ++ w)
  | .wrStatus w => .hostWrite (0x008#12 ++ w)
  | .wrBtnEnable w => .hostWrite (0x014#12 ++ w)
  | .wrDelivered w => .hostWrite (0x024#12 ++ w)
  | .wrFailed w => .hostWrite (0x028#12 ++ w)
  | .wrSnap w => .hostWrite (0x02C#12 ++ w)
  | .pressHeater => .hostWrite 0x01800000000#44
  | .pressFilter => .hostWrite 0x01800000001#44
  | .pressBubbles => .hostWrite 0x01800000002#44
  | .pressJets => .hostWrite 0x01800000003#44
  | .pressLock => .hostWrite 0x01800000004#44
  | .pressPower => .hostWrite 0x01800000005#44
  | .pressUnit => .hostWrite 0x01800000006#44
  | .pressTimer => .hostWrite 0x01800000007#44
  | .pressUp => .hostWrite 0x01800000008#44
  | .pressDown => .hostWrite 0x01800000009#44
  | .holdHeater => .hostWrite 0x01800000010#44
  | .holdFilter => .hostWrite 0x01800000011#44
  | .holdBubbles => .hostWrite 0x01800000012#44
  | .holdJets => .hostWrite 0x01800000013#44
  | .holdLock => .hostWrite 0x01800000014#44
  | .holdPower => .hostWrite 0x01800000015#44
  | .holdUnit => .hostWrite 0x01800000016#44
  | .holdTimer => .hostWrite 0x01800000017#44
  | .holdUp => .hostWrite 0x01800000018#44
  | .holdDown => .hostWrite 0x01800000019#44
  | .releaseHeater => .hostWrite 0x01800000020#44
  | .releaseFilter => .hostWrite 0x01800000021#44
  | .releaseBubbles => .hostWrite 0x01800000022#44
  | .releaseJets => .hostWrite 0x01800000023#44
  | .releaseLock => .hostWrite 0x01800000024#44
  | .releasePower => .hostWrite 0x01800000025#44
  | .releaseUnit => .hostWrite 0x01800000026#44
  | .releaseTimer => .hostWrite 0x01800000027#44
  | .releaseUp => .hostWrite 0x01800000028#44
  | .releaseDown => .hostWrite 0x01800000029#44
  | .wrCmdIllegalAction3 button => .hostWrite (0x018#12 ++ (0x0000003#28 ++ button))
  | .wrCmdIllegalButton10 action low => .hostWrite (0x018#12 ++ (0#26 ++ (action ++ (0b101#3 ++ low))))
  | .wrCmdIllegalButton12 action low => .hostWrite (0x018#12 ++ (0#26 ++ (action ++ (0b11#2 ++ low))))
  | .wrCmdIllegalBit6 w => .hostWrite (0x018#12 ++ w)
  | .wrCmdIllegalBit7 w => .hostWrite (0x018#12 ++ w)
  | .wrCmdIllegalBit8 w => .hostWrite (0x018#12 ++ w)
  | .wrCmdIllegalBit9 w => .hostWrite (0x018#12 ++ w)
  | .wrCmdIllegalBit10 w => .hostWrite (0x018#12 ++ w)
  | .wrCmdIllegalBit11 w => .hostWrite (0x018#12 ++ w)
  | .wrCmdIllegalBit12 w => .hostWrite (0x018#12 ++ w)
  | .wrCmdIllegalBit13 w => .hostWrite (0x018#12 ++ w)
  | .wrCmdIllegalBit14 w => .hostWrite (0x018#12 ++ w)
  | .wrCmdIllegalBit15 w => .hostWrite (0x018#12 ++ w)
  | .wrCmdIllegalBit16 w => .hostWrite (0x018#12 ++ w)
  | .wrCmdIllegalBit17 w => .hostWrite (0x018#12 ++ w)
  | .wrCmdIllegalBit18 w => .hostWrite (0x018#12 ++ w)
  | .wrCmdIllegalBit19 w => .hostWrite (0x018#12 ++ w)
  | .wrCmdIllegalBit20 w => .hostWrite (0x018#12 ++ w)
  | .wrCmdIllegalBit21 w => .hostWrite (0x018#12 ++ w)
  | .wrCmdIllegalBit22 w => .hostWrite (0x018#12 ++ w)
  | .wrCmdIllegalBit23 w => .hostWrite (0x018#12 ++ w)
  | .wrCmdIllegalBit24 w => .hostWrite (0x018#12 ++ w)
  | .wrCmdIllegalBit25 w => .hostWrite (0x018#12 ++ w)
  | .wrCmdIllegalBit26 w => .hostWrite (0x018#12 ++ w)
  | .wrCmdIllegalBit27 w => .hostWrite (0x018#12 ++ w)
  | .wrCmdIllegalBit28 w => .hostWrite (0x018#12 ++ w)
  | .wrCmdIllegalBit29 w => .hostWrite (0x018#12 ++ w)
  | .wrCmdIllegalBit30 w => .hostWrite (0x018#12 ++ w)
  | .wrCmdIllegalBit31 w => .hostWrite (0x018#12 ++ w)
  | .wrInvalidCountIgnored w => .hostWrite (0x00C#12 ++ w)
  | .wrErrCauseIgnored w => .hostWrite (0x010#12 ++ w)
  | .wrSlotPendingIgnored w => .hostWrite (0x01C#12 ++ w)
  | .wrSlotHoldingIgnored w => .hostWrite (0x020#12 ++ w)
  | .wrSnapNowLoIgnored w => .hostWrite (0x030#12 ++ w)
  | .wrSnapNowHiIgnored w => .hostWrite (0x034#12 ++ w)
  | .wrSnapLastUpdateLoIgnored w => .hostWrite (0x038#12 ++ w)
  | .wrSnapLastUpdateHiIgnored w => .hostWrite (0x03C#12 ++ w)
  | .wrSnapValidIgnored w => .hostWrite (0x040#12 ++ w)
  | .wrSnapFieldLo0Ignored w => .hostWrite (0x080#12 ++ w)
  | .wrSnapFieldHi0Ignored w => .hostWrite (0x084#12 ++ w)
  | .wrSnapFieldLo1Ignored w => .hostWrite (0x088#12 ++ w)
  | .wrSnapFieldHi1Ignored w => .hostWrite (0x08C#12 ++ w)
  | .wrSnapFieldLo2Ignored w => .hostWrite (0x090#12 ++ w)
  | .wrSnapFieldHi2Ignored w => .hostWrite (0x094#12 ++ w)
  | .wrSnapFieldLo3Ignored w => .hostWrite (0x098#12 ++ w)
  | .wrSnapFieldHi3Ignored w => .hostWrite (0x09C#12 ++ w)
  | .wrSnapFieldLo4Ignored w => .hostWrite (0x0A0#12 ++ w)
  | .wrSnapFieldHi4Ignored w => .hostWrite (0x0A4#12 ++ w)
  | .wrSnapFieldLo5Ignored w => .hostWrite (0x0A8#12 ++ w)
  | .wrSnapFieldHi5Ignored w => .hostWrite (0x0AC#12 ++ w)
  | .wrSnapFieldLo6Ignored w => .hostWrite (0x0B0#12 ++ w)
  | .wrSnapFieldHi6Ignored w => .hostWrite (0x0B4#12 ++ w)
  | .wrSnapFieldLo7Ignored w => .hostWrite (0x0B8#12 ++ w)
  | .wrSnapFieldHi7Ignored w => .hostWrite (0x0BC#12 ++ w)
  | .wrSnapFieldLo8Ignored w => .hostWrite (0x0C0#12 ++ w)
  | .wrSnapFieldHi8Ignored w => .hostWrite (0x0C4#12 ++ w)
  | .wrSnapFieldLo9Ignored w => .hostWrite (0x0C8#12 ++ w)
  | .wrSnapFieldHi9Ignored w => .hostWrite (0x0CC#12 ++ w)
  | .wrSnapFieldLo10Ignored w => .hostWrite (0x0D0#12 ++ w)
  | .wrSnapFieldHi10Ignored w => .hostWrite (0x0D4#12 ++ w)
  | .wrReserved044 w => .hostWrite (0x044#12 ++ w)
  | .rdReserved044 => .hostRead 0x044#12
  | .wrReserved048 off w => .hostWrite (off ++ w)
  | .rdReserved048 off => .hostRead off
  | .wrReserved050 off w => .hostWrite (off ++ w)
  | .rdReserved050 off => .hostRead off
  | .wrReserved060 off w => .hostWrite (off ++ w)
  | .rdReserved060 off => .hostRead off
  | .wrReserved0D8 off w => .hostWrite (off ++ w)
  | .rdReserved0D8 off => .hostRead off
  | .wrReserved0E0 off w => .hostWrite (off ++ w)
  | .rdReserved0E0 off => .hostRead off
  | .wrReserved100 off w => .hostWrite (off ++ w)
  | .rdReserved100 off => .hostRead off
  | .wrReserved200 off w => .hostWrite (off ++ w)
  | .rdReserved200 off => .hostRead off
  | .wrReserved400 off w => .hostWrite (off ++ w)
  | .rdReserved400 off => .hostRead off
  | .wrReserved800 off w => .hostWrite (off ++ w)
  | .rdReserved800 off => .hostRead off
  | .wrMisalignedOff0 off w => .hostWrite (off ++ w)
  | .rdMisalignedOff0 off => .hostRead off
  | .wrMisalignedOff1 off w => .hostWrite (off ++ w)
  | .rdMisalignedOff1 off => .hostRead off
  | .rdCfg => .hostRead 0x000#12
  | .rdCtrl => .hostRead 0x004#12
  | .rdStatus => .hostRead 0x008#12
  | .rdInvalidCount => .hostRead 0x00C#12
  | .rdErrCause => .hostRead 0x010#12
  | .rdBtnEnable => .hostRead 0x014#12
  | .rdCmd => .hostRead 0x018#12
  | .rdSlotPending => .hostRead 0x01C#12
  | .rdSlotHolding => .hostRead 0x020#12
  | .rdDelivered => .hostRead 0x024#12
  | .rdFailed => .hostRead 0x028#12
  | .rdSnap => .hostRead 0x02C#12
  | .rdSnapNowLo => .hostRead 0x030#12
  | .rdSnapNowHi => .hostRead 0x034#12
  | .rdSnapLastUpdateLo => .hostRead 0x038#12
  | .rdSnapLastUpdateHi => .hostRead 0x03C#12
  | .rdSnapValid => .hostRead 0x040#12
  | .rdSnapFieldLo0 => .hostRead 0x080#12
  | .rdSnapFieldHi0 => .hostRead 0x084#12
  | .rdSnapFieldLo1 => .hostRead 0x088#12
  | .rdSnapFieldHi1 => .hostRead 0x08C#12
  | .rdSnapFieldLo2 => .hostRead 0x090#12
  | .rdSnapFieldHi2 => .hostRead 0x094#12
  | .rdSnapFieldLo3 => .hostRead 0x098#12
  | .rdSnapFieldHi3 => .hostRead 0x09C#12
  | .rdSnapFieldLo4 => .hostRead 0x0A0#12
  | .rdSnapFieldHi4 => .hostRead 0x0A4#12
  | .rdSnapFieldLo5 => .hostRead 0x0A8#12
  | .rdSnapFieldHi5 => .hostRead 0x0AC#12
  | .rdSnapFieldLo6 => .hostRead 0x0B0#12
  | .rdSnapFieldHi6 => .hostRead 0x0B4#12
  | .rdSnapFieldLo7 => .hostRead 0x0B8#12
  | .rdSnapFieldHi7 => .hostRead 0x0BC#12
  | .rdSnapFieldLo8 => .hostRead 0x0C0#12
  | .rdSnapFieldHi8 => .hostRead 0x0C4#12
  | .rdSnapFieldLo9 => .hostRead 0x0C8#12
  | .rdSnapFieldHi9 => .hostRead 0x0CC#12
  | .rdSnapFieldLo10 => .hostRead 0x0D0#12
  | .rdSnapFieldHi10 => .hostRead 0x0D4#12
  | .idleLine kPrev kCur d => .busEvent (eventBits false kPrev false kCur d)
  | .csAssert kPrev kCur d => .busEvent (eventBits false kPrev true kCur d)
  | .csDeassert kPrev kCur d => .busEvent (eventBits true kPrev false kCur d)
  | .bit d => .busEvent (eventBits true false true true d)
  | .heldInactive d => .busEvent (eventBits true false true false d)
  | .heldReturn d => .busEvent (eventBits true true true false d)
  | .heldActive d => .busEvent (eventBits true true true true d)

/-- Why a string of bits is no operation word. -/
inductive DecodeError where
  /-- No class of R90 has words of this many bytes. -/
  | noClassOfThisLength (nbits : Nat)
  /-- The value has more bits than a word of its class. -/
  | tooManyBits (nbits w : Nat)
  deriving DecidableEq, Repr

/-- The operation word in `nbits` bits of value `w` (R90): up to one byte holds an event word, up to four bytes a read offset,
up to eight bytes a write value, each with every further bit 0 (log 10). -/
def OpWord.ofBits (nbits w : Nat) : Except DecodeError OpWord :=
  if nbits = 0 then .error (.noClassOfThisLength nbits)
  else if nbits ≤ 8 then
    if w < 2 ^ 5 then .ok (.busEvent (BitVec.ofNat 5 w)) else .error (.tooManyBits nbits w)
  else if nbits ≤ 32 then
    if w < 2 ^ 12 then .ok (.hostRead (BitVec.ofNat 12 w)) else .error (.tooManyBits nbits w)
  else if nbits ≤ 64 then
    if w < 2 ^ 44 then .ok (.hostWrite (BitVec.ofNat 44 w)) else .error (.tooManyBits nbits w)
  else .error (.noClassOfThisLength nbits)

/-- The instruction the decoder reads from `nbits` bits of value `w`, or the name of what is wrong with them. -/
def decodeBits (nbits w : Nat) : Except DecodeError Instr :=
  match OpWord.ofBits nbits w with
  | .ok op => .ok (decode op)
  | .error e => .error e

/-- The instruction the decoder reads from `nbits` bits of value `w`, none where it refuses them. -/
def decodeTableWord (nbits w : Nat) : Option Instr :=
  match decodeBits nbits w with
  | .ok i => some i
  | .error _ => none

end Sys2Proof
end

