-- ==== Sys2Proof/Config.lean ====
section
/-! DEFINITION. What an implementation of the block fixes: the enumerations of R16, the protocol profile of R110 as plain data,
and the OPEN parameters of R8 as opaque constants (no proof can see their values).

The functions a profile carries are held as data, so that the latched profile can stand in the machine's state: the checksum
predicate is a Boolean formula over the arrival bits (log 6), and `decode` is a formula for the patterns it recognises plus an
opaque typed value (log 7). -/

namespace Sys2Proof

/-- BusTopology of R16; code 3 is reserved and has no member (R281). -/
inductive BusTopology where
  | fourWire | sixWireTypeOne | sixWireTypeTwo
  deriving DecidableEq, Repr

/-- ButtonId of R16, in the order of its codes 0 to 9. -/
inductive ButtonId where
  | heater | filter | bubbles | jets | lock | power | unit | timer | up | down
  deriving DecidableEq, Repr

/-- FieldId of R16, in the order of its codes 0 to 10. -/
inductive FieldId where
  | currentTemperature | targetTemperature | heating | filter | bubbles | jets | locked | power | error | errorCode
  | displayText
  deriving DecidableEq, Repr

/-- BitOrder of R16. -/
inductive BitOrder where
  | msbFirst | lsbFirst
  deriving DecidableEq, Repr

/-- EdgePolarity of R16. -/
inductive EdgePolarity where
  | rising | falling
  deriving DecidableEq, Repr

/-- One value for each FieldId. -/
structure PerField (α : Type) where
  currentTemperature : α
  targetTemperature : α
  heating : α
  filter : α
  bubbles : α
  jets : α
  locked : α
  power : α
  error : α
  errorCode : α
  displayText : α
  deriving DecidableEq, Repr

/-- The value of field `f`. -/
def PerField.get {α : Type} (t : PerField α) : FieldId → α
  | .currentTemperature => t.currentTemperature
  | .targetTemperature => t.targetTemperature
  | .heating => t.heating
  | .filter => t.filter
  | .bubbles => t.bubbles
  | .jets => t.jets
  | .locked => t.locked
  | .power => t.power
  | .error => t.error
  | .errorCode => t.errorCode
  | .displayText => t.displayText

/-- The table whose entry for `f` is `g f`. -/
def PerField.ofFn {α : Type} (g : FieldId → α) : PerField α where
  currentTemperature := g .currentTemperature
  targetTemperature := g .targetTemperature
  heating := g .heating
  filter := g .filter
  bubbles := g .bubbles
  jets := g .jets
  locked := g .locked
  power := g .power
  error := g .error
  errorCode := g .errorCode
  displayText := g .displayText

/-- One value for each ButtonId. -/
structure PerButton (α : Type) where
  heater : α
  filter : α
  bubbles : α
  jets : α
  lock : α
  power : α
  unit : α
  timer : α
  up : α
  down : α
  deriving DecidableEq, Repr

/-- The value of button `b`. -/
def PerButton.get {α : Type} (t : PerButton α) : ButtonId → α
  | .heater => t.heater
  | .filter => t.filter
  | .bubbles => t.bubbles
  | .jets => t.jets
  | .lock => t.lock
  | .power => t.power
  | .unit => t.unit
  | .timer => t.timer
  | .up => t.up
  | .down => t.down

/-- The table whose entry for `b` is `g b`. -/
def PerButton.ofFn {α : Type} (g : ButtonId → α) : PerButton α where
  heater := g .heater
  filter := g .filter
  bubbles := g .bubbles
  jets := g .jets
  lock := g .lock
  power := g .power
  unit := g .unit
  timer := g .timer
  up := g .up
  down := g .down

/-- The table `t` with the entry of `b` replaced by `x`. -/
def PerButton.set {α : Type} (t : PerButton α) (b : ButtonId) (x : α) : PerButton α :=
  .ofFn fun c => if c = b then x else t.get c

/-- A Boolean formula over the bits of a vector. With `const`, `xor` and `and` every predicate on a fixed number of bits
can be written, so a profile's total predicate (R110) is held as data and nothing is lost (log 6). -/
inductive BitFormula where
  /-- A constant. -/
  | const (b : Bool)
  /-- The bit at index `i`. -/
  | bit (i : Nat)
  /-- Exclusive or. -/
  | xor (p q : BitFormula)
  /-- Conjunction. -/
  | and (p q : BitFormula)
  deriving DecidableEq, Repr

/-- A decimal number, `mantissa / 10 ^ places` (R17: temperatures are decimal degrees Celsius). -/
structure Decimal where
  mantissa : Int
  places : Nat
  deriving DecidableEq, Repr, Inhabited

/-- The typed value of a field (R17, R110): degrees Celsius, a flag, an error code or a display text. -/
inductive FieldValue where
  | celsius (d : Decimal)
  | flag (b : Bool)
  | code (n : Int)
  | text (t : String)
  deriving DecidableEq, Repr

/-- The protocol profile descriptor of R110. Integers are `Nat`, because START must be able to find them out of range (R111).
Bit lists (codes) are in transmission order. -/
structure Profile where
  frameBitCount : Nat
  bitOrder : BitOrder
  clockEdgePolarity : EdgePolarity
  /-- FieldId to (bit_offset, bit_width); none: the field is not in this profile's frames. -/
  fieldOffsets : PerField (Option (Nat × Nat))
  /-- The checksum predicate over the arrival bits, or none (R149). -/
  checksumRule : Option BitFormula
  csActiveLevel : Bool
  /-- Which 64-bit patterns `decode` recognises, for the four fields whose rule is OPEN (R152). -/
  recognisesCurrentTemperature : BitFormula
  recognisesTargetTemperature : BitFormula
  recognisesErrorCode : BitFormula
  recognisesDisplayText : BitFormula
  /-- The name of the vendor rule that gives a recognised pattern its typed value (R152). -/
  decodeRule : Nat
  buttonCode : PerButton (Option (List Bool))
  keepaliveCode : List Bool
  tLead : Nat
  tHalf : Nat
  tLag : Nat
  idleGap : Nat
  deliveryTimeout : Nat
  maxHold : Nat
  hibernateTimeout : Nat
  deriving DecidableEq, Repr

/-- The levels of the three CIO input lines in one tick (R53, R120). -/
structure Sample where
  clk : Bool
  dat : Bool
  cs : Bool
  deriving DecidableEq, Repr, Inhabited

namespace Config

/-- `MAX_FRAME_BITS` of R8. -/
abbrev maxFrameBits : Nat := 256

/-- `MAX_FIELD_BITS` of R8. -/
abbrev maxFieldBits : Nat := 64

/-- `MAX_CODE_BITS` of R8. -/
abbrev maxCodeBits : Nat := 64

/-- `PROFILE_TABLE` of R8, OPEN (D55): no claim may assume a value of it. -/
opaque profileTable : BusTopology → BitVec 8 → Option Profile

/-- `F_TICK` of R8, OPEN (D54): the frequency of the block clock in Hz. Only physical timing depends on it (R239).
DESIGN CHOICE (log 20): the spec gives no number type; here it is a rational number, with neither 0 nor a sign excluded. -/
opaque fTick : ℚ

/-- The vendor's temperature rule number `rule` applied to a recognised pattern of field `f` (R152, OPEN). -/
opaque decodeCelsius (rule : Nat) (f : FieldId) (raw : Word64) : Decimal

/-- The vendor's error-code rule number `rule` applied to a recognised pattern (R152, OPEN). -/
opaque decodeErrorCode (rule : Nat) (raw : Word64) : Int

/-- The vendor's display-text rule number `rule` applied to a recognised pattern (R152, OPEN). -/
opaque decodeText (rule : Nat) (raw : Word64) : String

/-- The CIO levels of a clock edge for which the outside world has supplied none: a free value, one for each value of the
counter `env.sampleIdx` (R120 "the model takes them as an unconstrained triple per tick"; log 2). -/
opaque cioSample : Nat → Sample

end Config

end Sys2Proof
end

