-- ==== Sys2Proof/Machine/Operands.lean ====
section
/-! DEFINITION. The operand forms: the codes of R16, the fields of the CFG and CMD words (R92 to R95), the LO and HI halves of a
64-bit value (R73), one bit per button or field, bits of a frame by arrival index (R11), and the assembly of a field (R150). -/

namespace Sys2Proof

/-- The ButtonIds in the order of their codes (R16). -/
def ButtonId.all : List ButtonId :=
  [.heater, .filter, .bubbles, .jets, .lock, .power, .unit, .timer, .up, .down]

/-- The code of a ButtonId (R16). -/
def ButtonId.code : ButtonId → Nat
  | .heater => 0
  | .filter => 1
  | .bubbles => 2
  | .jets => 3
  | .lock => 4
  | .power => 5
  | .unit => 6
  | .timer => 7
  | .up => 8
  | .down => 9

/-- The FieldIds in the order of their codes (R16). -/
def FieldId.all : List FieldId :=
  [.currentTemperature, .targetTemperature, .heating, .filter, .bubbles, .jets, .locked, .power, .error, .errorCode,
    .displayText]

/-- The code of a FieldId (R16). -/
def FieldId.code : FieldId → Nat
  | .currentTemperature => 0
  | .targetTemperature => 1
  | .heating => 2
  | .filter => 3
  | .bubbles => 4
  | .jets => 5
  | .locked => 6
  | .power => 7
  | .error => 8
  | .errorCode => 9
  | .displayText => 10

/-- The boolean FieldIds, 2 to 8 (R17). -/
def FieldId.isFlag : FieldId → Bool
  | .heating | .filter | .bubbles | .jets | .locked | .power | .error => true
  | .currentTemperature | .targetTemperature | .errorCode | .displayText => false

/-- The topology of a code; code 3 is reserved (R16, R281). -/
def BusTopology.ofCode (c : BitVec 2) : Option BusTopology :=
  if c = 0 then some .fourWire
  else if c = 1 then some .sixWireTypeOne
  else if c = 2 then some .sixWireTypeTwo
  else none

/-- `act` of R98 and R124: the active clock level of an edge polarity. -/
def EdgePolarity.act : EdgePolarity → Bool
  | .rising => true
  | .falling => false

/-- One bit per ButtonId, bit `b` for ButtonId code `b`. -/
def buttonMask (g : ButtonId → Bool) : ButtonMask :=
  BitVec.ofFnLE fun i : Fin 10 => (ButtonId.all[i]?.map g).getD false

/-- Bit `b` of a per-button mask. -/
def maskBit (m : ButtonMask) (b : ButtonId) : Bool := m.getLsbD b.code

/-- One bit per FieldId, bit `f` for FieldId code `f`. -/
def fieldMask (g : FieldId → Bool) : BitVec 11 :=
  BitVec.ofFnLE fun i : Fin 11 => (FieldId.all[i]?.map g).getD false

/-- The TOPOLOGY field of a CFG word (R94). -/
def cfgTopology (w : Word) : BitVec 2 := w.extractLsb' 0 2

/-- The MODEL field of a CFG word (R94). -/
def cfgModel (w : Word) : BitVec 8 := w.extractLsb' 8 8

/-- The HIB_EN bit of a CFG word (R94). -/
def cfgHibEn (w : Word) : Bool := w.getLsbD 16

/-- Bits [9:0] of a word: the BTN_ENABLE value and the write-one-to-clear masks (R95). -/
def wordMask (w : Word) : ButtonMask := w.extractLsb' 0 10

/-- The low half of a 64-bit value, read at the lower offset (R73). -/
def loWord (v : Word64) : Word := v.extractLsb' 0 32

/-- The high half of a 64-bit value, read at offset + 4 (R73). -/
def hiWord (v : Word64) : Word := v.extractLsb' 32 32

/-- A frame whose bits below `n` are 1 and whose other bits are 0. -/
def lowMask (n : Nat) : FrameBits := BitVec.ofNat 256 (2 ^ n - 1)

/-- The first `n` arrival bits of `v`, every later one 0. -/
def firstBits (v : FrameBits) (n : Nat) : FrameBits := v &&& lowMask n

/-- `v` with the bit at arrival index `i` replaced by `b`. -/
def setFrameBit (v : FrameBits) (i : Nat) (b : Bool) : FrameBits :=
  if b then v ||| BitVec.twoPow 256 i else v &&& ~~~(BitVec.twoPow 256 i)

/-- A bit list as a bit vector: its `i`-th element at index `i`. -/
def frameOfList : List Bool → FrameBits
  | [] => 0
  | b :: bs => (frameOfList bs <<< 1) ||| BitVec.setWidth 256 (BitVec.ofBool b)

/-- The value of one bit of `assemble`'s sum (R150): `V[o + j]` at the weight the order gives it. -/
def assembleTerm (v : FrameBits) (o w : Nat) (order : BitOrder) (j : Nat) : Nat :=
  if v.getLsbD (o + j) then
    match order with
    | .msbFirst => 2 ^ (w - 1 - j)
    | .lsbFirst => 2 ^ j
  else 0

/-- `assemble(V, o, w, order)` of R150, zero-extended to 64 bits (R101). -/
def assemble (v : FrameBits) (o w : Nat) (order : BitOrder) : Word64 :=
  BitVec.ofNat 64 ((List.range w).map (assembleTerm v o w order)).sum

end Sys2Proof
end

