-- ==== Sys2Proof/Machine/Profile.lean ====
section
/-! DEFINITION. What a protocol profile means: its levels (R123, R124, R235), its checksum verdict (R149), its typed decoding
(R152), its well-formedness (R111), and the lookup of START (R282). -/

namespace Sys2Proof

/-- The value of a formula over the bits `v`. -/
def BitFormula.eval (v : Nat → Bool) : BitFormula → Bool
  | .const b => b
  | .bit i => v i
  | .xor p q => Bool.xor (p.eval v) (q.eval v)
  | .and p q => p.eval v && q.eval v

/-- The active clock level, `k_on` of R235. -/
def Profile.clkOn (p : Profile) : Bool := p.clockEdgePolarity.act

/-- Chip-select level `x` is asserted (R123). -/
def Profile.asserted (p : Profile) (x : Bool) : Bool := x == p.csActiveLevel

/-- Clock level `x` is active (R124). -/
def Profile.active (p : Profile) (x : Bool) : Bool := x == p.clkOn

/-- The arrival bits of a complete frame, `V = RAW[0..N-1]` of R149. -/
def Profile.frame (p : Profile) (raw : FrameBits) : FrameBits := firstBits raw p.frameBitCount

/-- The checksum verdict on the arrival bits `v` (R149): with no rule every frame passes. -/
def Profile.checksumPasses (p : Profile) (v : FrameBits) : Bool :=
  match p.checksumRule with
  | none => true
  | some ck => ck.eval fun i => v.getLsbD i

/-- `P.decode(f, raw) ≠ None`: the pattern of field `f` is recognised. The boolean fields are never unrecognised (R152). -/
def Profile.recognises (p : Profile) (f : FieldId) (raw : Word64) : Bool :=
  match f with
  | .currentTemperature => p.recognisesCurrentTemperature.eval fun i => raw.getLsbD i
  | .targetTemperature => p.recognisesTargetTemperature.eval fun i => raw.getLsbD i
  | .errorCode => p.recognisesErrorCode.eval fun i => raw.getLsbD i
  | .displayText => p.recognisesDisplayText.eval fun i => raw.getLsbD i
  | .heating | .filter | .bubbles | .jets | .locked | .power | .error => true

/-- The typed value of a recognised pattern (R152): fixed for the boolean fields, OPEN for the others. -/
def Profile.typedValue (p : Profile) (f : FieldId) (raw : Word64) : FieldValue :=
  match f with
  | .currentTemperature => .celsius (Config.decodeCelsius p.decodeRule .currentTemperature raw)
  | .targetTemperature => .celsius (Config.decodeCelsius p.decodeRule .targetTemperature raw)
  | .errorCode => .code (Config.decodeErrorCode p.decodeRule raw)
  | .displayText => .text (Config.decodeText p.decodeRule raw)
  | .heating | .filter | .bubbles | .jets | .locked | .power | .error => .flag (raw == 1)

/-- `P.decode(f, raw)` (R152). It never raises: an unrecognised pattern gives none (R318). -/
def Profile.decode (p : Profile) (f : FieldId) (raw : Word64) : Option FieldValue :=
  if p.recognises f raw then some (p.typedValue f raw) else none

/-- A bit list is a code of R110: 1 to `MAX_CODE_BITS` bits. -/
def codeLengthOk (c : List Bool) : Bool := 1 ≤ c.length && c.length ≤ Config.maxCodeBits

/-- A timing field is 1 to 2^32 - 1 ticks (R110). -/
def ticksOk (n : Nat) : Bool := 1 ≤ n && n ≤ 2 ^ 32 - 1

/-- The place of one field is as R111 asks. -/
def Profile.fieldOk (p : Profile) (f : FieldId) : Bool :=
  match p.fieldOffsets.get f with
  | none => true
  | some (o, w) => 1 ≤ w && w ≤ Config.maxFieldBits && o + w ≤ p.frameBitCount && (!f.isFlag || w == 1)

/-- The code of one button is as R111 asks. -/
def Profile.buttonOk (p : Profile) (b : ButtonId) : Bool :=
  match p.buttonCode.get b with
  | none => true
  | some c => codeLengthOk c

/-- The profile is well-formed (R111). -/
def Profile.wf (p : Profile) : Bool :=
  1 ≤ p.frameBitCount && p.frameBitCount ≤ Config.maxFrameBits
    && FieldId.all.all p.fieldOk
    && ButtonId.all.all p.buttonOk
    && codeLengthOk p.keepaliveCode
    && ticksOk p.tLead && ticksOk p.tHalf && ticksOk p.tLag && ticksOk p.idleGap && ticksOk p.deliveryTimeout
    && ticksOk p.maxHold && ticksOk p.hibernateTimeout

/-- `PROFILE_TABLE(t, m)` for a topology code: none for the reserved code 3 (R281, R282). -/
def lookupProfile (t : BitVec 2) (m : BitVec 8) : Option Profile :=
  match BusTopology.ofCode t with
  | none => none
  | some topo => Config.profileTable topo m

/-- The profile START accepts for the pair (t, m), none where START fails (R282, R284). -/
def startProfile (t : BitVec 2) (m : BitVec 8) : Option Profile :=
  match lookupProfile t m with
  | none => none
  | some p => if p.wf then some p else none

end Sys2Proof
end

