-- ==== Sys2Proof/Machine/State.lean ====
section
/-! DEFINITION. The state of the block as plain data: every state element of `10_state.md` (R22 to R52), the per-tick signals
of R47, and the model's own fields for the outside world and the port's answer. A docstring names the element and its rule;
`State.reset` is R330. -/

namespace Sys2Proof.Machine

/-- RUN_STATE (R22) together with `P`, the active profile (R24): `P` has a value exactly while Running (log 14). Code 3 is
never reached and has no value here (log 12). -/
inductive RunState where
  | config
  | running (p : Profile)
  | configError
  deriving DecidableEq, Repr

/-- DEC_STATE (R31). -/
inductive DecoderState where
  | idle | accumulating | complete | invalid
  deriving DecidableEq, Repr

/-- SLOT_STATE (R40). -/
inductive SlotState where
  | empty | pendingPress | pendingHold | holding
  deriving DecidableEq, Repr

/-- SER_STATE (R50); codes 5 to 7 are never reached and have no value here (log 12). -/
inductive SerState where
  | idle | lead | first | second | lag
  deriving DecidableEq, Repr

/-- SER_SRC (R51): none, re-encode, injected command, keep-alive. -/
inductive SerSource where
  | none | re | cmd | ka
  deriving DecidableEq, Repr

/-- The configuration registers of R23. -/
structure CfgRegs where
  /-- CFG_TOPOLOGY. -/
  topology : BitVec 2
  /-- CFG_MODEL. -/
  model : BitVec 8
  /-- CFG_HIB_EN. -/
  hibEn : Bool
  deriving DecidableEq, Repr

/-- The sampler's state (R26 to R29). -/
structure SamplerState where
  /-- S_PREV_VALID (R26). -/
  prevValid : Bool
  /-- S_PREV_CLK, S_PREV_DAT, S_PREV_CS (R27). -/
  prev : Sample
  /-- QUIET_CNT (R28). -/
  quietCnt : BitVec 32
  /-- BUS_IDLE (R29). -/
  busIdle : Bool
  deriving DecidableEq, Repr

/-- The frame decoder's state (R30 to R34). -/
structure FrameState where
  /-- RAW, bit `i` is arrival index `i` (R30). -/
  raw : FrameBits
  /-- DEC_STATE (R31). -/
  state : DecoderState
  /-- BIT_CNT (R32). -/
  bitCnt : BitVec 9
  /-- INVALID_COUNT (R33). -/
  invalidCount : BitVec 32
  /-- ERR_CAUSE (R34). -/
  errCause : BitVec 2
  deriving DecidableEq, Repr

/-- The live field bank (R35, R36, R38). -/
structure FieldBank where
  /-- FIELD_KNOWN (R35). -/
  known : PerField Bool
  /-- FIELD_RAW (R35). -/
  raw : PerField Word64
  /-- LAST_FRAME (R36). -/
  lastFrame : FrameBits
  /-- LAST_FRAME_VALID (R36). -/
  lastFrameValid : Bool
  /-- LAST_UPDATE (R38). -/
  lastUpdate : Word64
  /-- LAST_UPDATE_VALID (R38). -/
  lastUpdateValid : Bool
  deriving DecidableEq, Repr

/-- The snapshot bank (R39). -/
structure SnapshotBank where
  /-- SNAP_KNOWN. -/
  known : PerField Bool
  /-- SNAP_RAW. -/
  raw : PerField Word64
  /-- SNAP_LAST_UPDATE. -/
  lastUpdate : Word64
  /-- SNAP_LAST_UPDATE_VALID. -/
  lastUpdateValid : Bool
  /-- SNAP_LAST_FRAME_VALID. -/
  lastFrameValid : Bool
  /-- SNAP_NOW. -/
  now : Word64
  deriving DecidableEq, Repr

/-- The injector's slot of one ButtonId (R40 to R42). -/
structure Slot where
  /-- SLOT_STATE (R40). -/
  state : SlotState
  /-- ENQ_TIME (R41). -/
  enqTime : Word64
  /-- HOLD_START (R41). -/
  holdStart : Word64
  /-- EMITTED (R42). -/
  emitted : Bool
  deriving DecidableEq, Repr

/-- The serializer's state (R50, R51). -/
structure Serializer where
  /-- SER_STATE (R50). -/
  state : SerState
  /-- SER_TIMER. -/
  timer : BitVec 32
  /-- SER_IDX. -/
  idx : BitVec 9
  /-- SER_LEN. -/
  len : BitVec 9
  /-- SER_BUF, bit `i` is the `i`-th bit sent. -/
  buf : FrameBits
  /-- SER_SRC. -/
  src : SerSource
  deriving DecidableEq, Repr

/-- The registered output ports (R52). -/
structure OutputPorts where
  dspClk : Bool
  dspDat : Bool
  dspCs : Bool
  dspOe : Bool
  audioMute : Bool
  deriving DecidableEq, Repr

/-- The per-tick signals of R47, held only between the phases of one tick (log 4). -/
structure TickSignals where
  /-- `masked` (R268). -/
  masked : Bool
  /-- The event word the sampler formed, if any (R98, R125). -/
  event : Option (BitVec 5)
  /-- `activity` (R126). -/
  activity : Bool
  /-- FRAME_END (R146). -/
  frameEnd : Bool
  /-- IDLE_LINE (R255). -/
  idleLine : Bool
  /-- CMD_STARTED (R198). -/
  cmdStarted : Bool
  /-- SER_NEW (R231). -/
  serNew : Bool
  deriving DecidableEq, Repr

/-- One thing the outside world does to the block (R4, R53, R70). The model's own (log 1). -/
inductive Input where
  /-- One rising edge of the block clock with the CIO levels sampled at it (R10, R120). -/
  | clock (x : Sample)
  /-- A host write of `bytes` bytes, the 44-bit value `off · 2^32 + data` (R70, R91). -/
  | write (bytes : Nat) (t : BitVec 44)
  /-- A host read of `bytes` bytes (R70). -/
  | read (bytes : Nat) (off : Offset)
  /-- The RST input goes to `level` (R53, R330). -/
  | rst (level : Bool)
  deriving DecidableEq, Repr

/-- The outside world: the model's own fields (log 1, log 2, log 8). -/
structure Environment where
  /-- What happens next, first entry first. -/
  pending : List Input
  /-- The level of the RST input. -/
  rst : Bool
  /-- How many free CIO samples have been taken (log 2). -/
  sampleIdx : Nat
  deriving DecidableEq, Repr

/-- The host register port's answer, the model's own field (log 3). -/
structure HostPort where
  /-- The word the last host read returned (R70), none before the first. -/
  rdata : Option Word
  deriving DecidableEq, Repr

/-- The whole machine. -/
structure State where
  /-- RUN_STATE and P (R22, R24). -/
  run : RunState
  /-- CFG_TOPOLOGY, CFG_MODEL, CFG_HIB_EN (R23). -/
  cfg : CfgRegs
  /-- BTN_ENABLE (R25). -/
  btnEnable : ButtonMask
  smp : SamplerState
  dec : FrameState
  bank : FieldBank
  /-- NOW (R37). -/
  now : Word64
  snap : SnapshotBank
  /-- SLOT_STATE, ENQ_TIME, HOLD_START, EMITTED of each ButtonId (R40 to R42). -/
  slots : PerButton Slot
  /-- DELIVERED (R43). -/
  delivered : ButtonMask
  /-- FAILED (R43). -/
  failed : ButtonMask
  /-- BAD_CMD (R44). -/
  badCmd : Bool
  /-- RE_PENDING (R45). -/
  rePending : Bool
  /-- HIB_CNT (R46). -/
  hibCnt : BitVec 32
  ser : Serializer
  out : OutputPorts
  /-- The per-tick signals (R47), all clear at a tick boundary. -/
  sig : TickSignals
  port : HostPort
  env : Environment
  deriving DecidableEq, Repr

/-- Why the machine stops with a fault. -/
inductive Fault where
  /-- A Running tick or a bus event found DEC_STATE Complete or Invalid at a tick boundary. Raised by the step and by the bus
  events. The spec asks for it (`93_implementation_defined.md` item 16 "fault if ever observed"); no run from reset reaches
  such a state (R31). Safe: the model stops where no correct block can be. -/
  | decoderNotSettled
  deriving DecidableEq, Repr

/-- Why an operation is given no meaning. -/
inductive Refusal where
  /-- The dispatch rejects an operation that has no meaning yet, by its row's mnemonic. Safe: the run stops. -/
  | notModelled (mnemonic : String)
  /-- A host transaction at an offset that is not a multiple of 4. Raised by the four misaligned rows. The spec asks for it (R72
  "the model refuses it (gives it no meaning) rather than guessing a result"). Safe: the run stops. -/
  | misalignedTransaction (off : Offset)
  /-- A host transaction that does not move exactly four bytes. Raised by the step (R72). Safe: the run stops. -/
  | transactionWidth (bytes : Nat)
  deriving DecidableEq, Repr

/-- No signal (R47 "starts the tick at 0 (or none)"). -/
def TickSignals.none : TickSignals where
  masked := false
  event := .none
  activity := false
  frameEnd := false
  idleLine := false
  cmdStarted := false
  serNew := false

/-- An empty slot as reset leaves it (R40 to R42). -/
def Slot.reset : Slot where
  state := .empty
  enqTime := 0
  holdStart := 0
  emitted := false

/-- Every state element at its reset value (R330). -/
def State.reset : State where
  run := .config
  cfg := { topology := 0, model := 0, hibEn := false }
  btnEnable := 0
  smp := { prevValid := false, prev := { clk := false, dat := false, cs := false }, quietCnt := 0, busIdle := false }
  dec := { raw := 0, state := .idle, bitCnt := 0, invalidCount := 0, errCause := 0 }
  bank :=
    { known := .ofFn fun _ => false, raw := .ofFn fun _ => 0, lastFrame := 0, lastFrameValid := false, lastUpdate := 0,
      lastUpdateValid := false }
  now := 0
  snap :=
    { known := .ofFn fun _ => false, raw := .ofFn fun _ => 0, lastUpdate := 0, lastUpdateValid := false,
      lastFrameValid := false, now := 0 }
  slots := .ofFn fun _ => Slot.reset
  delivered := 0
  failed := 0
  badCmd := false
  rePending := false
  hibCnt := 0
  ser := { state := .idle, timer := 0, idx := 0, len := 0, buf := 0, src := .none }
  out := { dspClk := false, dspDat := false, dspCs := false, dspOe := false, audioMute := false }
  sig := .none
  port := { rdata := .none }
  env := { pending := [], rst := false, sampleIdx := 0 }

end Sys2Proof.Machine
end

