-- ==== Sys2Proof/Machine/Ops.lean ====
section
/-! DEFINITION. The named operations over the block's registers: counters (R11), recording an error and acknowledging one (the
block's counterparts of taking an exception and returning from one, R300, R310, R311), the host's register writes (R174, R280,
R282, R286 to R289), the enqueue of a command (R192), the answer of a read (R70), `start_tx` (R231) and reset (R330). -/

namespace Sys2Proof.Machine

/-! ### Counters -/

/-- `sat_inc_32` (R11). -/
def satInc32 (c : BitVec 32) : BitVec 32 := if c = BitVec.allOnes 32 then c else c + 1

/-! ### Errors: record and acknowledge -/

/-- The error kinds of R300 with what `raise` is told of them (R301 to R305). -/
inductive BlockError where
  /-- FramingError(bit_count) (R301). -/
  | framing (bitCount : BitVec 9)
  /-- ChecksumError(frame) (R302). -/
  | checksum (v : FrameBits)
  /-- DeliveryFailure(b) for every button `b` of the mask (R303). -/
  | delivery (who : ButtonMask)
  /-- ConfigMismatch(topology, model) (R304). -/
  | config (topology : BitVec 2) (model : BitVec 8)
  /-- BadCommand (R305); the word is not recorded. -/
  | badCommand
  deriving DecidableEq, Repr

/-- `raise`: the error's record is written and control goes on (R12, R300, R306, R310). Nothing is saved and no mode but
RUN_STATE of ConfigMismatch changes. -/
def raise (e : BlockError) (s : State) : State :=
  match e with
  | .framing _ => { s with dec := { s.dec with invalidCount := s.dec.invalidCount + 1, errCause := 1 } }
  | .checksum _ => { s with dec := { s.dec with invalidCount := s.dec.invalidCount + 1, errCause := 2 } }
  | .delivery who => { s with failed := s.failed ||| who }
  | .config _ _ => { s with run := .configError }
  | .badCommand => { s with badCmd := true }

/-- WR STATUS (R287): bit 4 written 1 clears BAD_CMD; every other bit is ignored. -/
def statusWrite (w : Word) (s : State) : State :=
  if w.getLsbD 4 then { s with badCmd := false } else s

/-- WR DELIVERED (R288): the bits of the mask are cleared. -/
def deliveredWrite (w : Word) (s : State) : State :=
  { s with delivered := s.delivered &&& ~~~(wordMask w) }

/-- WR FAILED (R289): the bits of the mask are cleared. -/
def failedWrite (w : Word) (s : State) : State :=
  { s with failed := s.failed &&& ~~~(wordMask w) }

/-! ### Host register writes -/

/-- A write that changes nothing: a read-only register or a reserved offset (R74). -/
def ignoredWrite (s : State) : State := s

/-- WR CFG (R280): stored in Config, ignored otherwise. -/
def cfgWrite (w : Word) (s : State) : State :=
  match s.run with
  | .config => { s with cfg := { topology := cfgTopology w, model := cfgModel w, hibEn := cfgHibEn w } }
  | .running _ => s
  | .configError => s

/-- START (R282): in Config, latch the profile and run, or fail to ConfigError; nothing outside Config (R285). -/
def start (s : State) : State :=
  match s.run with
  | .config =>
    match startProfile s.cfg.topology s.cfg.model with
    | some p => { s with run := .running p }
    | none => raise (.config s.cfg.topology s.cfg.model) s
  | .running _ => s
  | .configError => s

/-- WR CTRL (R282): START where bit 0 is 1. -/
def ctrlWrite (w : Word) (s : State) : State :=
  if w.getLsbD 0 then start s else s

/-- WR BTN_ENABLE (R286). -/
def btnEnableWrite (w : Word) (s : State) : State :=
  { s with btnEnable := wordMask w }

/-- WR SNAP (R174): the live bank is copied into the snapshot bank. -/
def takeSnapshot (s : State) : State :=
  { s with
    snap :=
      { known := s.bank.known, raw := s.bank.raw, lastUpdate := s.bank.lastUpdate,
        lastUpdateValid := s.bank.lastUpdateValid, lastFrameValid := s.bank.lastFrameValid, now := s.now } }

/-! ### Commands -/

/-- SLOT_STATE[b] <- st. -/
def setSlotState (b : ButtonId) (st : SlotState) (s : State) : State :=
  { s with slots := s.slots.set b { s.slots.get b with state := st } }

/-- A Press or Hold of `b` is not refused (R192 step 3): Running, its gate set, and the profile has its code. -/
def acceptsCommand (b : ButtonId) (s : State) : Bool :=
  match s.run with
  | .running p => maskBit s.btnEnable b && (p.buttonCode.get b).isSome
  | .config => false
  | .configError => false

/-- A Press or Hold of `b` (R192 steps 3 and 4): refused with FAILED[b], or the slot becomes `st` with ENQ_TIME NOW. -/
def enqueue (b : ButtonId) (st : SlotState) (s : State) : State :=
  if acceptsCommand b s then
    { s with slots := s.slots.set b { s.slots.get b with state := st, enqTime := s.now } }
  else raise (.delivery (buttonMask fun c => c == b)) s

/-- A Press of `b` (R193). -/
def pressCommand (b : ButtonId) (s : State) : State := enqueue b .pendingPress s

/-- A Hold of `b` (R194). -/
def holdCommand (b : ButtonId) (s : State) : State := enqueue b .pendingHold s

/-- A Release of `b` (R192 step 2, R195). -/
def releaseCommand (b : ButtonId) (s : State) : State := setSlotState b .empty s

/-- An illegal command word (R192 step 1). -/
def illegalCommand (s : State) : State := raise .badCommand s

/-! ### Host reads -/

/-- The port answers `v` to a host read; nothing else changes (R70, R75; log 3). -/
def answerRead (v : Word) (s : State) : State :=
  { s with port := { rdata := some v } }

/-! ### Transmissions, topology, reset -/

/-- `start_tx(bits, len, src)` (R231). Every caller has found the serializer Idle (R258; log 13). -/
def startTx (p : Profile) (bits : FrameBits) (len : Nat) (src : SerSource) (s : State) : State :=
  { s with
    ser :=
      { state := .lead, timer := BitVec.ofNat 32 p.tLead, idx := 0, len := BitVec.ofNat 9 len, buf := firstBits bits len,
        src := src }
    sig := { s.sig with serNew := true } }

/-- `start_tx` of a code (R102, R103): its bits in list order. -/
def startTxCode (p : Profile) (code : List Bool) (src : SerSource) (s : State) : State :=
  startTx p (frameOfList code) code.length src s

/-- TOPO = FourWire (R250). -/
def isFourWire (s : State) : Bool := s.cfg.topology == 0

/-- Reset taken at a clock edge with RST asserted (R330, R332): every state element at its reset value; what the outside
world does next is not the block's. -/
def resetBlock (s : State) : State := { State.reset with env := s.env }

/-- The outcome `o` with `f` applied to its next state. -/
def thenNext (o : Host.Outcome State Fault Refusal) (f : State → State) : Host.Outcome State Fault Refusal :=
  match o with
  | .next s => .next (f s)
  | .fault r => .fault r
  | .refused r => .refused r

end Sys2Proof.Machine
end

