-- ==== Sys2Proof/Machine/Sampler.lean ====
section
/-! DEFINITION. The bit sampler (`40_bit_sampler.md`), phase 1 of a Running tick: masked tick, history load, event word, activity,
quiet counter, history update. -/

namespace Sys2Proof.Machine

/-- The event word of R98 for a previous and a current sample. -/
def eventWord (p : Profile) (prev cur : Sample) : BitVec 5 :=
  eventBits (p.asserted prev.cs) (p.active prev.clk) (p.asserted cur.cs) (p.active cur.clk) cur.dat

/-- Any CIO line differs between two samples (R126). -/
def lineChanged (prev cur : Sample) : Bool := cur.clk != prev.clk || cur.dat != prev.dat || cur.cs != prev.cs

/-- The quiet counter and the window flags (R127). -/
def countQuiet (s : State) : State :=
  if s.sig.activity then
    { s with
      smp := { s.smp with quietCnt := 0 }
      slots := .ofFn fun b => { s.slots.get b with emitted := false } }
  else { s with smp := { s.smp with quietCnt := satInc32 s.smp.quietCnt } }

/-- A masked tick discards its sample (R121). -/
def sampleMasked (s : State) : State :=
  { s with
    smp := { s.smp with prevValid := false }
    sig := { s.sig with event := none, activity := false } }

/-- A history-load tick (R122). -/
def loadHistory (x : Sample) (s : State) : State :=
  { s with
    smp := { s.smp with prev := x, prevValid := true }
    sig := { s.sig with event := none, activity := false } }

/-- A tick with a valid previous sample: event word, activity and history update (R125, R126, R128). -/
def sampleEvent (p : Profile) (x : Sample) (s : State) : State :=
  { s with
    smp := { s.smp with prev := x }
    sig := { s.sig with event := some (eventWord p s.smp.prev x), activity := lineChanged s.smp.prev x } }

/-- The sampler (R120 to R128). -/
def sampler (p : Profile) (x : Sample) (s : State) : State :=
  countQuiet
    (if s.sig.masked then sampleMasked s
     else if s.smp.prevValid then sampleEvent p x s
     else loadHistory x s)

/-- The start of a tick (R250): every signal clear, then `masked` (R268). -/
def beginTick (s : State) : State :=
  { s with sig := { TickSignals.none with masked := isFourWire s && s.out.dspOe } }

end Sys2Proof.Machine
end

