-- ==== Sys2Proof/Machine/Fetch.lean ====
section
/-! DEFINITION. What happens to the block next (R4, R76): the head of the outside world's list, or a clock edge with free CIO
levels where the list is empty; and how an operation word is placed so that the very next step runs it (log 1, log 11). -/

namespace Sys2Proof.Machine

/-- The next input and the state in which it is taken (log 1, log 2). -/
def fetch (s : State) : Input × State :=
  match s.env.pending with
  | i :: rest => (i, { s with env := { s.env with pending := rest } })
  | [] => (.clock (Config.cioSample s.env.sampleIdx), { s with env := { s.env with sampleIdx := s.env.sampleIdx + 1 } })

/-- `i` placed before everything the outside world does, with RST released so that it has its effect. -/
def placeInput (i : Input) (s : State) : State :=
  { s with env := { s.env with pending := i :: s.env.pending, rst := false } }

/-- A well-formed profile with nothing in it, with which a bus event can be placed in a block that has latched none. It stands
for no spa model (log 11). -/
def stimulusProfile : Profile where
  frameBitCount := 8
  bitOrder := .msbFirst
  clockEdgePolarity := .rising
  fieldOffsets := .ofFn fun _ => none
  checksumRule := none
  csActiveLevel := false
  recognisesCurrentTemperature := .const false
  recognisesTargetTemperature := .const false
  recognisesErrorCode := .const false
  recognisesDisplayText := .const false
  decodeRule := 0
  buttonCode := .ofFn fun _ => none
  keepaliveCode := [false]
  tLead := 1
  tHalf := 1
  tLag := 1
  idleGap := 1
  deliveryTimeout := 1
  maxHold := 1
  hibernateTimeout := 1

/-- The profile in use, or the stimulus profile where none is. -/
def profileInUse (s : State) : Profile :=
  match s.run with
  | .running p => p
  | .config => stimulusProfile
  | .configError => stimulusProfile

/-- The level that makes a line read `on` under the active level `level`. -/
def levelFor (level on : Bool) : Bool := if on then level else !level

/-- A Running, unmasked block with a previous sample and a clock edge, such that the sampler forms the event word `e`. -/
def placeEvent (e : BitVec 5) (s : State) : State :=
  let p := profileInUse s
  placeInput
    (.clock { clk := levelFor p.clkOn (e.getLsbD 1), dat := e.getLsbD 0, cs := levelFor p.csActiveLevel (e.getLsbD 2) })
    { s with
      run := .running p
      smp :=
        { s.smp with
          prevValid := true
          prev :=
            { clk := levelFor p.clkOn (e.getLsbD 3), dat := s.smp.prev.dat, cs := levelFor p.csActiveLevel (e.getLsbD 4) } }
      out := if isFourWire s then { s.out with dspOe := false } else s.out }

/-- `s` with the operation word `op` placed where the step takes its next input. -/
def placeOp (op : OpWord) (s : State) : State :=
  match op with
  | .hostWrite t => placeInput (.write 4 t) s
  | .hostRead off => placeInput (.read 4 off) s
  | .busEvent e => placeEvent e s

end Sys2Proof.Machine
end

