-- ==== Sys2Proof/Machine/Flags.lean ====
section
/-! DEFINITION. Every word a host read gives that is put together from bits: CFG (R177), STATUS (R61, R178), ERR_CAUSE (R180), the
per-button masks (R181 to R185) and SNAP_VALID (R188); and the typed state export of R176. -/

namespace Sys2Proof.Machine

/-- The code of DEC_STATE (R16, R31). -/
def DecoderState.code : DecoderState → BitVec 2
  | .idle => 0
  | .accumulating => 1
  | .complete => 2
  | .invalid => 3

/-- RUN_STATE = Running (R22). -/
def RunState.isRunning : RunState → Bool
  | .running _ => true
  | .config => false
  | .configError => false

/-- RUN_STATE = ConfigError (R22). -/
def RunState.isConfigError : RunState → Bool
  | .configError => true
  | .config => false
  | .running _ => false

/-- RD CFG (R177): {15'b0, CFG_HIB_EN, CFG_MODEL, 6'b0, CFG_TOPOLOGY}. -/
def cfgWord (s : State) : Word :=
  0#15 ++ (BitVec.ofBool s.cfg.hibEn ++ (s.cfg.model ++ (0#6 ++ s.cfg.topology)))

/-- SER_BUSY (R61). -/
def serBusy (s : State) : Bool := s.ser.state != .idle

/-- RD STATUS (R61): DEC_STATE in [9:8], then RE_PENDING 5, BAD_CMD 4, BUS_IDLE 3, SER_BUSY 2, CFG_ERROR 1, RUNNING 0. -/
def statusWord (s : State) : Word :=
  0#22 ++ (s.dec.state.code ++ (0#2 ++ (BitVec.ofBool s.rePending ++ (BitVec.ofBool s.badCmd
    ++ (BitVec.ofBool s.smp.busIdle ++ (BitVec.ofBool (serBusy s) ++ (BitVec.ofBool s.run.isConfigError
      ++ BitVec.ofBool s.run.isRunning)))))))

/-- A per-button mask as a register word, `zext_32`. -/
def maskWord (m : ButtonMask) : Word := m.setWidth 32

/-- RD ERR_CAUSE (R180). -/
def errCauseWord (s : State) : Word := s.dec.errCause.setWidth 32

/-- SLOT_STATE is PendingPress or PendingHold. -/
def SlotState.isPending : SlotState → Bool
  | .pendingPress | .pendingHold => true
  | .empty | .holding => false

/-- RD SLOT_PENDING (R182). -/
def slotPendingWord (s : State) : Word := maskWord (buttonMask fun b => (s.slots.get b).state.isPending)

/-- RD SLOT_HOLDING (R183). -/
def slotHoldingWord (s : State) : Word := maskWord (buttonMask fun b => (s.slots.get b).state == .holding)

/-- RD SNAP_VALID (R188): SNAP_KNOWN in [10:0], SNAP_LAST_UPDATE_VALID 16, SNAP_LAST_FRAME_VALID 17. -/
def snapValidWord (s : State) : Word :=
  0#14 ++ (BitVec.ofBool s.snap.lastFrameValid ++ (BitVec.ofBool s.snap.lastUpdateValid
    ++ (0#5 ++ fieldMask fun f => s.snap.known.get f)))

/-- RD SNAP_FIELD_LO[f] (R175). -/
def snapFieldLo (f : FieldId) (s : State) : Word := loWord (s.snap.raw.get f)

/-- RD SNAP_FIELD_HI[f] (R175). -/
def snapFieldHi (f : FieldId) (s : State) : Word := hiWord (s.snap.raw.get f)

/-- A read of a write-only register or a reserved offset (R74, R189). -/
def zeroWord : Word := 0

/-- The typed state export of R176: `P.decode(f, SNAP_RAW[f])` where the snapshot knows the field, else unknown. The adapter
layer computes it; no rule of the block reads it. -/
def exportedValue (p : Profile) (f : FieldId) (s : State) : Option FieldValue :=
  if s.snap.known.get f then p.decode f (s.snap.raw.get f) else none

/-- The "last_update" accessor of R176. -/
def exportedLastUpdate (s : State) : Option Word64 :=
  if s.snap.lastUpdateValid then some s.snap.lastUpdate else none

end Sys2Proof.Machine
end

