-- ==== Sys2Proof/Machine/Injector.lean ====
section
/-! DEFINITION. Phase 3 of a Running tick (`43_command_injector.md`): gate, hold expiry, drain, delivery timeout. -/

namespace Sys2Proof.Machine

/-- Phase 3a (R196): the slots of disabled buttons are emptied, and a pending command among them fails. -/
def gate (s : State) : State :=
  raise
    (.delivery (buttonMask fun b => !maskBit s.btnEnable b && (s.slots.get b).state.isPending))
    { s with
      slots := .ofFn fun b =>
        if maskBit s.btnEnable b then s.slots.get b else { s.slots.get b with state := .empty } }

/-- The hold of a slot has run for `max_hold` ticks at time `t` (R197; 64-bit unsigned subtraction). -/
def holdExpired (p : Profile) (t : Word64) (k : Slot) : Bool :=
  k.state == .holding && p.maxHold ≤ (t - k.holdStart).toNat

/-- Phase 3b (R197): expired holds end. -/
def expire (p : Profile) (s : State) : State :=
  { s with
    slots := .ofFn fun b =>
      if holdExpired p s.now (s.slots.get b) then { s.slots.get b with state := .empty } else s.slots.get b }

/-- IDLE_WIN (R255), evaluated where it is used. -/
def idleWin (s : State) : Bool := s.sig.idleLine && s.ser.state == .idle

/-- A slot may be drained (R198). -/
def eligible (k : Slot) : Bool :=
  match k.state with
  | .pendingPress | .pendingHold => true
  | .holding => !k.emitted
  | .empty => false

/-- The InjectionSlot grant (R198, R256): the least eligible button in an idle window. -/
def injectionSlot (s : State) : Option ButtonId :=
  if idleWin s then ButtonId.all.find? fun b => eligible (s.slots.get b) else none

/-- The chosen slot after its code has entered the serializer at time `t` (R199). -/
def drainedSlot (t : Word64) (k : Slot) : Slot :=
  match k.state with
  | .pendingPress => { k with state := .empty }
  | .pendingHold => { k with state := .holding, holdStart := t, emitted := true }
  | .holding => { k with emitted := true }
  | .empty => k

/-- The drain effect on the chosen slot (R199): a pending command is delivered. -/
def drainEffect (b : ButtonId) (s : State) : State :=
  { s with
    slots := s.slots.set b (drainedSlot s.now (s.slots.get b))
    delivered :=
      if (s.slots.get b).state.isPending then s.delivered ||| buttonMask (fun c => c == b) else s.delivered }

/-- CMD_STARTED <- v (R198). -/
def setCmdStarted (v : Bool) (s : State) : State := { s with sig := { s.sig with cmdStarted := v } }

/-- Phase 3c (R198): the granted button's code enters the serializer. An accepted command has a code, since its enqueue
checked it and P does not change (R192, R283; log 13). -/
def drain (p : Profile) (s : State) : State :=
  match injectionSlot s with
  | some b => setCmdStarted true (drainEffect b (startTxCode p ((p.buttonCode.get b).getD []) .cmd s))
  | none => setCmdStarted false s

/-- A pending command has had its `delivery_timeout` ticks at time `t` (R200). -/
def deliveryExpired (p : Profile) (t : Word64) (k : Slot) : Bool :=
  k.state.isPending && p.deliveryTimeout - 1 ≤ (t - k.enqTime).toNat

/-- Phase 3d (R200): pending commands past their time fail; `chosen` is the button phase 3c served. -/
def timeout (p : Profile) (chosen : Option ButtonId) (s : State) : State :=
  raise
    (.delivery (buttonMask fun b => chosen != some b && deliveryExpired p s.now (s.slots.get b)))
    { s with
      slots := .ofFn fun b =>
        if chosen != some b && deliveryExpired p s.now (s.slots.get b) then { s.slots.get b with state := .empty }
        else s.slots.get b }

/-- Phase 3 (R250). -/
def injector (p : Profile) (s : State) : State :=
  let s := expire p (gate s)
  timeout p (injectionSlot s) (drain p s)

end Sys2Proof.Machine
end

