-- ==== Sys2Proof/Machine/Serializer.lean ====
section
/-! DEFINITION. The bit serializer (`44_bit_serializer.md`): its transitions, its advance in phase 5, its output levels, and the
durations of R237 to R239. -/

namespace Sys2Proof.Machine

/-- The transition when the timer of the current state runs out (R233). -/
def serTransition (p : Profile) (r : Serializer) : Serializer :=
  match r.state with
  | .idle => r
  | .lead => { r with state := .first, timer := BitVec.ofNat 32 p.tHalf }
  | .first => { r with state := .second, timer := BitVec.ofNat 32 p.tHalf }
  | .second =>
    if r.idx.toNat + 1 < r.len.toNat then
      { r with idx := r.idx + 1, state := .first, timer := BitVec.ofNat 32 p.tHalf }
    else { r with state := .lag, timer := BitVec.ofNat 32 p.tLag }
  | .lag => { r with state := .idle, src := .none, timer := 0 }

/-- One tick of the serializer (R232): a running transmission's timer counts down, and the transition is taken when it is 0;
an Idle serializer stays as it is. -/
def serAdvance (p : Profile) (r : Serializer) : Serializer :=
  if r.state = .idle then r
  else if r.timer - 1 = 0 then serTransition p { r with timer := 0 }
  else { r with timer := r.timer - 1 }

/-- Phase 5 (R232): the serializer advances unless its transmission started in this tick. -/
def advance (p : Profile) (s : State) : State :=
  { s with
    ser := if s.sig.serNew then s.ser else serAdvance p s.ser
    sig := { s.sig with serNew := false } }

/-- The bit at index `i` of the serializer's buffer. -/
def serBit (r : Serializer) (i : Nat) : Bool := r.buf.getLsbD i

/-- The chip-select level of R235. -/
def serCs (p : Profile) (r : Serializer) : Bool :=
  match r.state with
  | .idle => !p.csActiveLevel
  | .lead | .first | .second | .lag => p.csActiveLevel

/-- The clock level of R235. -/
def serClk (p : Profile) (r : Serializer) : Bool :=
  match r.state with
  | .second => p.clkOn
  | .idle | .lead | .first | .lag => !p.clkOn

/-- The data level of R235. -/
def serDat (r : Serializer) : Bool :=
  match r.state with
  | .idle => false
  | .lead => serBit r 0
  | .first | .second => serBit r r.idx.toNat
  | .lag => serBit r (r.len.toNat - 1)

/-- Ticks from the start of a transmission of `len` bits to the tick that leaves it Idle (R237): L + 2H·len + G. -/
def transmissionTicks (p : Profile) (len : Nat) : Nat := p.tLead + 2 * p.tHalf * len + p.tLag

/-- The bit rate of a transmission in bits per second (R239); no rule uses it. DESIGN CHOICE (log 20): `F_TICK` is a rational
number, and a division by 0 gives 0. -/
def bitRate (p : Profile) : ℚ := Config.fTick / (2 * p.tHalf)

/-- The length of a transmission in seconds, counting the deasserted tick (R239); no rule uses it. DESIGN CHOICE (log 20) as in
`bitRate`. -/
def transmissionSeconds (p : Profile) (len : Nat) : ℚ := ((transmissionTicks p len + 1 : Nat) : ℚ) / Config.fTick

end Sys2Proof.Machine
end

