-- ==== Sys2Proof/Machine/BusMux.lean ====
section
/-! DEFINITION. The bus multiplexer and the tick (`45_bus_mux_arbitration.md`): the idle line, the 6-wire re-encode, hibernate
prevention, the output update, and the phases of a Running tick before and after the decoder's step (R250). -/

namespace Sys2Proof.Machine

/-- IDLE_LINE after phase 1 (R255). -/
def detectIdle (p : Profile) (x : Sample) (s : State) : State :=
  { s with
    sig :=
      { s.sig with
        idleLine := !s.sig.masked && !p.asserted x.cs && decide (p.idleGap ≤ s.smp.quietCnt.toNat) } }

/-- A re-encode is owed (R260, first line). -/
def oweReencode (s : State) : State :=
  if s.sig.frameEnd && s.bank.lastFrameValid then { s with rePending := true } else s

/-- An owed re-encode starts if the serializer is free (R260, R261). -/
def startReencode (p : Profile) (s : State) : State :=
  if s.rePending && s.ser.state == .idle then
    { startTx p s.bank.lastFrame p.frameBitCount .re s with rePending := false }
  else s

/-- Phase 2: nothing in FourWire (R253), the re-encode in the 6-wire topologies (R254, R260). -/
def forward (p : Profile) (s : State) : State :=
  if isFourWire s then s else startReencode p (oweReencode s)

/-- The inactivity counter (R263). -/
def countInactivity (s : State) : State :=
  if !s.cfg.hibEn then { s with hibCnt := 0 }
  else if s.sig.activity || s.sig.cmdStarted then { s with hibCnt := 0 }
  else { s with hibCnt := satInc32 s.hibCnt }

/-- The keep-alive (R264). -/
def emitKeepalive (p : Profile) (s : State) : State :=
  if s.cfg.hibEn && decide (p.hibernateTimeout ≤ s.hibCnt.toNat) && s.ser.state == .idle && s.sig.idleLine then
    { startTxCode p p.keepaliveCode .ka s with hibCnt := 0 }
  else s

/-- Phase 4 (R263, R264). -/
def hibernate (p : Profile) (s : State) : State := emitKeepalive p (countInactivity s)

/-- The output update at the end of a tick (R266, R267, R259, R292). -/
def updateOutputs (p : Profile) (s : State) : State :=
  { s with
    out :=
      { dspCs := serCs p s.ser, dspClk := serClk p s.ser, dspDat := serDat s.ser,
        dspOe := if isFourWire s then s.ser.state != .idle else true, audioMute := false }
    smp := { s.smp with busIdle := s.sig.idleLine } }

/-- The end of a tick: NOW counts (R251) and the signals hold nothing across the boundary (R47). -/
def endTick (s : State) : State := { s with now := s.now + 1, sig := TickSignals.none }

/-- A Running tick up to the sampler's event (R250). -/
def tickHead (p : Profile) (x : Sample) (s : State) : State := sampler p x (beginTick s)

/-- A Running tick after the decoder's step (R250). -/
def tickTail (p : Profile) (x : Sample) (s : State) : State :=
  endTick (updateOutputs p (advance p (hibernate p (injector p (forward p (detectIdle p x s))))))

/-- The levels the block drives on the DSP lines (CS, CLK, DAT), none while DSP_OE = 0 (R52, R266; log 15). -/
def drivenLines (s : State) : Option (Bool × Bool × Bool) :=
  if s.out.dspOe then some (s.out.dspCs, s.out.dspClk, s.out.dspDat) else none

end Sys2Proof.Machine
end

