-- ==== Sys2Proof/Machine/FrameDecoder.lean ====
section
/-! DEFINITION. The frame decoder (`41_frame_decoder.md`): its step on each bus event, frame completion, checksum, field
extraction. The meanings of the event rows (`BusEvents.lean`) call these. -/

namespace Sys2Proof.Machine

/-- DEC_STATE is a value it has at tick boundaries (R31, R140). -/
def DecoderState.settled : DecoderState → Bool
  | .idle | .accumulating => true
  | .complete | .invalid => false

/-- The end of a frame (R146): FRAME_END and back to Idle. -/
def endFrame (s : State) : State :=
  { s with
    dec := { s.dec with state := .idle }
    sig := { s.sig with frameEnd := true } }

/-- The live bank after the frame `v` is applied at time `t` (R151). -/
def updateBank (p : Profile) (v : FrameBits) (t : Word64) (k : FieldBank) : FieldBank where
  known := .ofFn fun f =>
    match p.fieldOffsets.get f with
    | some (o, w) => p.recognises f (assemble v o w p.bitOrder)
    | none => k.known.get f
  raw := .ofFn fun f =>
    match p.fieldOffsets.get f with
    | some (o, w) => assemble v o w p.bitOrder
    | none => k.raw.get f
  lastFrame := v
  lastFrameValid := true
  lastUpdate := t
  lastUpdateValid := true

/-- An accepted frame is applied (R151). -/
def applyFrame (p : Profile) (v : FrameBits) (s : State) : State :=
  endFrame { s with bank := updateBank p v s.now s.bank }

/-- A frame whose checksum fails is dropped (R149, R302). -/
def dropFrame (v : FrameBits) (s : State) : State :=
  endFrame (raise (.checksum v) { s with dec := { s.dec with state := .invalid } })

/-- The frame has all its bits: it is checked and applied or dropped (R146, R149). -/
def completeFrame (p : Profile) (s : State) : State :=
  if p.checksumPasses (p.frame s.dec.raw) then applyFrame p (p.frame s.dec.raw) s
  else dropFrame (p.frame s.dec.raw) s

/-- A bit is captured while Accumulating (R144). -/
def captureBit (p : Profile) (d : Bool) (s : State) : State :=
  if (s.dec.bitCnt + 1).toNat = p.frameBitCount then
    completeFrame p
      { s with
        dec :=
          { s.dec with
            raw := setFrameBit s.dec.raw s.dec.bitCnt.toNat d, bitCnt := s.dec.bitCnt + 1, state := .complete } }
  else
    { s with
      dec := { s.dec with raw := setFrameBit s.dec.raw s.dec.bitCnt.toNat d, bitCnt := s.dec.bitCnt + 1 } }

/-- Chip-select deasserts before the frame has all its bits (R147, R301). -/
def earlyDeassert (s : State) : State :=
  endFrame (raise (.framing s.dec.bitCnt) { s with dec := { s.dec with state := .invalid } })

/-- The decoder on CS_ASSERT: a frame starts (R142), and restarts if one was accumulating (R145). -/
def onCsAssert (_ : Profile) (s : State) : State :=
  { s with dec := { s.dec with bitCnt := 0, state := .accumulating } }

/-- The decoder on BIT(d): captured while Accumulating (R144), ignored in Idle (R143). -/
def onBit (d : Bool) (p : Profile) (s : State) : State :=
  match s.dec.state with
  | .accumulating => captureBit p d s
  | .idle | .complete | .invalid => s

/-- The decoder on CS_DEASSERT: a framing error while Accumulating (R147), ignored in Idle (R143). -/
def onCsDeassert (_ : Profile) (s : State) : State :=
  match s.dec.state with
  | .accumulating => earlyDeassert s
  | .idle | .complete | .invalid => s

/-- The decoder on IDLE_LINE and the HELD events: nothing changes (R143, R145). -/
def onNoChange (_ : Profile) (s : State) : State := s

/-- One step of the decoder (R141): `f` while Running with the decoder at a tick-boundary state; a fault at a state that no tick
boundary has (item 16); nothing outside Running, where no event is formed (R273; log 16). -/
def decoderStep (f : Profile → State → State) (s : State) : Host.Outcome State Fault Refusal :=
  match s.run with
  | .running p => if s.dec.state.settled then .next (f p s) else .fault .decoderNotSettled
  | .config => .next s
  | .configError => .next s

end Sys2Proof.Machine
end

