-- ==== Sys2Proof/Machine/BusEvents.lean ====
section
/-! DEFINITION. The meanings of the bus events: one step of the frame decoder (R141 to R149). The tick around it is `Step.lean`'s. -/

namespace Sys2Proof.Machine

/-- IDLE_LINE (R125). -/
def execIdleLine (_kPrev : Bool) (_kCur : Bool) (_d : Bool) (s : State) : Host.Outcome State Fault Refusal :=
  decoderStep onNoChange s

/-- CS_ASSERT (R142). -/
def execCsAssert (_kPrev : Bool) (_kCur : Bool) (_d : Bool) (s : State) : Host.Outcome State Fault Refusal :=
  decoderStep onCsAssert s

/-- CS_DEASSERT (R147). -/
def execCsDeassert (_kPrev : Bool) (_kCur : Bool) (_d : Bool) (s : State) : Host.Outcome State Fault Refusal :=
  decoderStep onCsDeassert s

/-- BIT(d) (R144). -/
def execBit (d : Bool) (s : State) : Host.Outcome State Fault Refusal :=
  decoderStep (onBit d) s

/-- HELD_INACTIVE (R145). -/
def execHeldInactive (_d : Bool) (s : State) : Host.Outcome State Fault Refusal :=
  decoderStep onNoChange s

/-- HELD_RETURN (R145). -/
def execHeldReturn (_d : Bool) (s : State) : Host.Outcome State Fault Refusal :=
  decoderStep onNoChange s

/-- HELD_ACTIVE (R145). -/
def execHeldActive (_d : Bool) (s : State) : Host.Outcome State Fault Refusal :=
  decoderStep onNoChange s

end Sys2Proof.Machine
end

