-- ==== Sys2Proof/Machine/Commands.lean ====
section
/-! DEFINITION. The meanings of the 30 legal command words (R193 to R195) and of the illegal rows (R192 step 1), one line each over
the commands of `Ops.lean`. -/

namespace Sys2Proof.Machine

/-- PRESS_heater (R193). -/
def execPressHeater (s : State) : Host.Outcome State Fault Refusal :=
  .next (pressCommand .heater s)

/-- PRESS_filter (R193). -/
def execPressFilter (s : State) : Host.Outcome State Fault Refusal :=
  .next (pressCommand .filter s)

/-- PRESS_bubbles (R193). -/
def execPressBubbles (s : State) : Host.Outcome State Fault Refusal :=
  .next (pressCommand .bubbles s)

/-- PRESS_jets (R193). -/
def execPressJets (s : State) : Host.Outcome State Fault Refusal :=
  .next (pressCommand .jets s)

/-- PRESS_lock (R193). -/
def execPressLock (s : State) : Host.Outcome State Fault Refusal :=
  .next (pressCommand .lock s)

/-- PRESS_power (R193). -/
def execPressPower (s : State) : Host.Outcome State Fault Refusal :=
  .next (pressCommand .power s)

/-- PRESS_unit (R193). -/
def execPressUnit (s : State) : Host.Outcome State Fault Refusal :=
  .next (pressCommand .unit s)

/-- PRESS_timer (R193). -/
def execPressTimer (s : State) : Host.Outcome State Fault Refusal :=
  .next (pressCommand .timer s)

/-- PRESS_up (R193). -/
def execPressUp (s : State) : Host.Outcome State Fault Refusal :=
  .next (pressCommand .up s)

/-- PRESS_down (R193). -/
def execPressDown (s : State) : Host.Outcome State Fault Refusal :=
  .next (pressCommand .down s)

/-- HOLD_heater (R194). -/
def execHoldHeater (s : State) : Host.Outcome State Fault Refusal :=
  .next (holdCommand .heater s)

/-- HOLD_filter (R194). -/
def execHoldFilter (s : State) : Host.Outcome State Fault Refusal :=
  .next (holdCommand .filter s)

/-- HOLD_bubbles (R194). -/
def execHoldBubbles (s : State) : Host.Outcome State Fault Refusal :=
  .next (holdCommand .bubbles s)

/-- HOLD_jets (R194). -/
def execHoldJets (s : State) : Host.Outcome State Fault Refusal :=
  .next (holdCommand .jets s)

/-- HOLD_lock (R194). -/
def execHoldLock (s : State) : Host.Outcome State Fault Refusal :=
  .next (holdCommand .lock s)

/-- HOLD_power (R194). -/
def execHoldPower (s : State) : Host.Outcome State Fault Refusal :=
  .next (holdCommand .power s)

/-- HOLD_unit (R194). -/
def execHoldUnit (s : State) : Host.Outcome State Fault Refusal :=
  .next (holdCommand .unit s)

/-- HOLD_timer (R194). -/
def execHoldTimer (s : State) : Host.Outcome State Fault Refusal :=
  .next (holdCommand .timer s)

/-- HOLD_up (R194). -/
def execHoldUp (s : State) : Host.Outcome State Fault Refusal :=
  .next (holdCommand .up s)

/-- HOLD_down (R194). -/
def execHoldDown (s : State) : Host.Outcome State Fault Refusal :=
  .next (holdCommand .down s)

/-- RELEASE_heater (R195). -/
def execReleaseHeater (s : State) : Host.Outcome State Fault Refusal :=
  .next (releaseCommand .heater s)

/-- RELEASE_filter (R195). -/
def execReleaseFilter (s : State) : Host.Outcome State Fault Refusal :=
  .next (releaseCommand .filter s)

/-- RELEASE_bubbles (R195). -/
def execReleaseBubbles (s : State) : Host.Outcome State Fault Refusal :=
  .next (releaseCommand .bubbles s)

/-- RELEASE_jets (R195). -/
def execReleaseJets (s : State) : Host.Outcome State Fault Refusal :=
  .next (releaseCommand .jets s)

/-- RELEASE_lock (R195). -/
def execReleaseLock (s : State) : Host.Outcome State Fault Refusal :=
  .next (releaseCommand .lock s)

/-- RELEASE_power (R195). -/
def execReleasePower (s : State) : Host.Outcome State Fault Refusal :=
  .next (releaseCommand .power s)

/-- RELEASE_unit (R195). -/
def execReleaseUnit (s : State) : Host.Outcome State Fault Refusal :=
  .next (releaseCommand .unit s)

/-- RELEASE_timer (R195). -/
def execReleaseTimer (s : State) : Host.Outcome State Fault Refusal :=
  .next (releaseCommand .timer s)

/-- RELEASE_up (R195). -/
def execReleaseUp (s : State) : Host.Outcome State Fault Refusal :=
  .next (releaseCommand .up s)

/-- RELEASE_down (R195). -/
def execReleaseDown (s : State) : Host.Outcome State Fault Refusal :=
  .next (releaseCommand .down s)

/-- WR_CMD_illegal__ACTION_3 (R192). -/
def execWrCmdIllegalAction3 (_button : BitVec 4) (s : State) : Host.Outcome State Fault Refusal :=
  .next (illegalCommand s)

/-- WR_CMD_illegal__BUTTON_10..11 (R192). -/
def execWrCmdIllegalButton10 (_action : BitVec 2) (_low : BitVec 1) (s : State) : Host.Outcome State Fault Refusal :=
  .next (illegalCommand s)

/-- WR_CMD_illegal__BUTTON_12..15 (R192). -/
def execWrCmdIllegalButton12 (_action : BitVec 2) (_low : BitVec 2) (s : State) : Host.Outcome State Fault Refusal :=
  .next (illegalCommand s)

/-- WR_CMD_illegal__bit_6_set (R192). -/
def execWrCmdIllegalBit6 (_w : Word) (s : State) : Host.Outcome State Fault Refusal :=
  .next (illegalCommand s)

/-- WR_CMD_illegal__bit_7_set (R192). -/
def execWrCmdIllegalBit7 (_w : Word) (s : State) : Host.Outcome State Fault Refusal :=
  .next (illegalCommand s)

/-- WR_CMD_illegal__bit_8_set (R192). -/
def execWrCmdIllegalBit8 (_w : Word) (s : State) : Host.Outcome State Fault Refusal :=
  .next (illegalCommand s)

/-- WR_CMD_illegal__bit_9_set (R192). -/
def execWrCmdIllegalBit9 (_w : Word) (s : State) : Host.Outcome State Fault Refusal :=
  .next (illegalCommand s)

/-- WR_CMD_illegal__bit_10_set (R192). -/
def execWrCmdIllegalBit10 (_w : Word) (s : State) : Host.Outcome State Fault Refusal :=
  .next (illegalCommand s)

/-- WR_CMD_illegal__bit_11_set (R192). -/
def execWrCmdIllegalBit11 (_w : Word) (s : State) : Host.Outcome State Fault Refusal :=
  .next (illegalCommand s)

/-- WR_CMD_illegal__bit_12_set (R192). -/
def execWrCmdIllegalBit12 (_w : Word) (s : State) : Host.Outcome State Fault Refusal :=
  .next (illegalCommand s)

/-- WR_CMD_illegal__bit_13_set (R192). -/
def execWrCmdIllegalBit13 (_w : Word) (s : State) : Host.Outcome State Fault Refusal :=
  .next (illegalCommand s)

/-- WR_CMD_illegal__bit_14_set (R192). -/
def execWrCmdIllegalBit14 (_w : Word) (s : State) : Host.Outcome State Fault Refusal :=
  .next (illegalCommand s)

/-- WR_CMD_illegal__bit_15_set (R192). -/
def execWrCmdIllegalBit15 (_w : Word) (s : State) : Host.Outcome State Fault Refusal :=
  .next (illegalCommand s)

/-- WR_CMD_illegal__bit_16_set (R192). -/
def execWrCmdIllegalBit16 (_w : Word) (s : State) : Host.Outcome State Fault Refusal :=
  .next (illegalCommand s)

/-- WR_CMD_illegal__bit_17_set (R192). -/
def execWrCmdIllegalBit17 (_w : Word) (s : State) : Host.Outcome State Fault Refusal :=
  .next (illegalCommand s)

/-- WR_CMD_illegal__bit_18_set (R192). -/
def execWrCmdIllegalBit18 (_w : Word) (s : State) : Host.Outcome State Fault Refusal :=
  .next (illegalCommand s)

/-- WR_CMD_illegal__bit_19_set (R192). -/
def execWrCmdIllegalBit19 (_w : Word) (s : State) : Host.Outcome State Fault Refusal :=
  .next (illegalCommand s)

/-- WR_CMD_illegal__bit_20_set (R192). -/
def execWrCmdIllegalBit20 (_w : Word) (s : State) : Host.Outcome State Fault Refusal :=
  .next (illegalCommand s)

/-- WR_CMD_illegal__bit_21_set (R192). -/
def execWrCmdIllegalBit21 (_w : Word) (s : State) : Host.Outcome State Fault Refusal :=
  .next (illegalCommand s)

/-- WR_CMD_illegal__bit_22_set (R192). -/
def execWrCmdIllegalBit22 (_w : Word) (s : State) : Host.Outcome State Fault Refusal :=
  .next (illegalCommand s)

/-- WR_CMD_illegal__bit_23_set (R192). -/
def execWrCmdIllegalBit23 (_w : Word) (s : State) : Host.Outcome State Fault Refusal :=
  .next (illegalCommand s)

/-- WR_CMD_illegal__bit_24_set (R192). -/
def execWrCmdIllegalBit24 (_w : Word) (s : State) : Host.Outcome State Fault Refusal :=
  .next (illegalCommand s)

/-- WR_CMD_illegal__bit_25_set (R192). -/
def execWrCmdIllegalBit25 (_w : Word) (s : State) : Host.Outcome State Fault Refusal :=
  .next (illegalCommand s)

/-- WR_CMD_illegal__bit_26_set (R192). -/
def execWrCmdIllegalBit26 (_w : Word) (s : State) : Host.Outcome State Fault Refusal :=
  .next (illegalCommand s)

/-- WR_CMD_illegal__bit_27_set (R192). -/
def execWrCmdIllegalBit27 (_w : Word) (s : State) : Host.Outcome State Fault Refusal :=
  .next (illegalCommand s)

/-- WR_CMD_illegal__bit_28_set (R192). -/
def execWrCmdIllegalBit28 (_w : Word) (s : State) : Host.Outcome State Fault Refusal :=
  .next (illegalCommand s)

/-- WR_CMD_illegal__bit_29_set (R192). -/
def execWrCmdIllegalBit29 (_w : Word) (s : State) : Host.Outcome State Fault Refusal :=
  .next (illegalCommand s)

/-- WR_CMD_illegal__bit_30_set (R192). -/
def execWrCmdIllegalBit30 (_w : Word) (s : State) : Host.Outcome State Fault Refusal :=
  .next (illegalCommand s)

/-- WR_CMD_illegal__bit_31_set (R192). -/
def execWrCmdIllegalBit31 (_w : Word) (s : State) : Host.Outcome State Fault Refusal :=
  .next (illegalCommand s)

end Sys2Proof.Machine
end

