-- ==== Sys2Proof/Machine/ConfigWrites.lean ====
section
/-! DEFINITION. The meanings of the configuration and control writes (`46_configuration_control.md`) and of SNAP (R174), one
line each over the register writes of `Ops.lean`. -/

namespace Sys2Proof.Machine

/-- WR_CFG (R280). -/
def execWrCfg (w : Word) (s : State) : Host.Outcome State Fault Refusal :=
  .next (cfgWrite w s)

/-- WR_CTRL__START (R282). -/
def execWrCtrlStart (w : Word) (s : State) : Host.Outcome State Fault Refusal :=
  .next (ctrlWrite w s)

/-- WR_CTRL__no_START (R282). -/
def execWrCtrlNoStart (w : Word) (s : State) : Host.Outcome State Fault Refusal :=
  .next (ctrlWrite w s)

/-- WR_STATUS (R287). -/
def execWrStatus (w : Word) (s : State) : Host.Outcome State Fault Refusal :=
  .next (statusWrite w s)

/-- WR_BTN_ENABLE (R286). -/
def execWrBtnEnable (w : Word) (s : State) : Host.Outcome State Fault Refusal :=
  .next (btnEnableWrite w s)

/-- WR_DELIVERED (R288). -/
def execWrDelivered (w : Word) (s : State) : Host.Outcome State Fault Refusal :=
  .next (deliveredWrite w s)

/-- WR_FAILED (R289). -/
def execWrFailed (w : Word) (s : State) : Host.Outcome State Fault Refusal :=
  .next (failedWrite w s)

/-- WR_SNAP (R174). -/
def execWrSnap (_w : Word) (s : State) : Host.Outcome State Fault Refusal :=
  .next (takeSnapshot s)

end Sys2Proof.Machine
end

