-- ==== Sys2Proof/Machine/HostReads.lean ====
section
/-! DEFINITION. The meanings of the host reads (`42_field_bank_and_reads.md`): the port answers the register's word, and nothing else
changes (R75). -/

namespace Sys2Proof.Machine

/-- RD_CFG (R177). -/
def execRdCfg (s : State) : Host.Outcome State Fault Refusal :=
  .next (answerRead (cfgWord s) s)

/-- RD_CTRL (R189). -/
def execRdCtrl (s : State) : Host.Outcome State Fault Refusal :=
  .next (answerRead zeroWord s)

/-- RD_STATUS (R178). -/
def execRdStatus (s : State) : Host.Outcome State Fault Refusal :=
  .next (answerRead (statusWord s) s)

/-- RD_INVALID_COUNT (R179). -/
def execRdInvalidCount (s : State) : Host.Outcome State Fault Refusal :=
  .next (answerRead s.dec.invalidCount s)

/-- RD_ERR_CAUSE (R180). -/
def execRdErrCause (s : State) : Host.Outcome State Fault Refusal :=
  .next (answerRead (errCauseWord s) s)

/-- RD_BTN_ENABLE (R181). -/
def execRdBtnEnable (s : State) : Host.Outcome State Fault Refusal :=
  .next (answerRead (maskWord s.btnEnable) s)

/-- RD_CMD (R189). -/
def execRdCmd (s : State) : Host.Outcome State Fault Refusal :=
  .next (answerRead zeroWord s)

/-- RD_SLOT_PENDING (R182). -/
def execRdSlotPending (s : State) : Host.Outcome State Fault Refusal :=
  .next (answerRead (slotPendingWord s) s)

/-- RD_SLOT_HOLDING (R183). -/
def execRdSlotHolding (s : State) : Host.Outcome State Fault Refusal :=
  .next (answerRead (slotHoldingWord s) s)

/-- RD_DELIVERED (R184). -/
def execRdDelivered (s : State) : Host.Outcome State Fault Refusal :=
  .next (answerRead (maskWord s.delivered) s)

/-- RD_FAILED (R185). -/
def execRdFailed (s : State) : Host.Outcome State Fault Refusal :=
  .next (answerRead (maskWord s.failed) s)

/-- RD_SNAP (R189). -/
def execRdSnap (s : State) : Host.Outcome State Fault Refusal :=
  .next (answerRead zeroWord s)

/-- RD_SNAP_NOW_LO (R186). -/
def execRdSnapNowLo (s : State) : Host.Outcome State Fault Refusal :=
  .next (answerRead (loWord s.snap.now) s)

/-- RD_SNAP_NOW_HI (R186). -/
def execRdSnapNowHi (s : State) : Host.Outcome State Fault Refusal :=
  .next (answerRead (hiWord s.snap.now) s)

/-- RD_SNAP_LAST_UPDATE_LO (R187). -/
def execRdSnapLastUpdateLo (s : State) : Host.Outcome State Fault Refusal :=
  .next (answerRead (loWord s.snap.lastUpdate) s)

/-- RD_SNAP_LAST_UPDATE_HI (R187). -/
def execRdSnapLastUpdateHi (s : State) : Host.Outcome State Fault Refusal :=
  .next (answerRead (hiWord s.snap.lastUpdate) s)

/-- RD_SNAP_VALID (R188). -/
def execRdSnapValid (s : State) : Host.Outcome State Fault Refusal :=
  .next (answerRead (snapValidWord s) s)

/-- RD_SNAP_FIELD_LO_0 (R175). -/
def execRdSnapFieldLo0 (s : State) : Host.Outcome State Fault Refusal :=
  .next (answerRead (snapFieldLo .currentTemperature s) s)

/-- RD_SNAP_FIELD_HI_0 (R175). -/
def execRdSnapFieldHi0 (s : State) : Host.Outcome State Fault Refusal :=
  .next (answerRead (snapFieldHi .currentTemperature s) s)

/-- RD_SNAP_FIELD_LO_1 (R175). -/
def execRdSnapFieldLo1 (s : State) : Host.Outcome State Fault Refusal :=
  .next (answerRead (snapFieldLo .targetTemperature s) s)

/-- RD_SNAP_FIELD_HI_1 (R175). -/
def execRdSnapFieldHi1 (s : State) : Host.Outcome State Fault Refusal :=
  .next (answerRead (snapFieldHi .targetTemperature s) s)

/-- RD_SNAP_FIELD_LO_2 (R175). -/
def execRdSnapFieldLo2 (s : State) : Host.Outcome State Fault Refusal :=
  .next (answerRead (snapFieldLo .heating s) s)

/-- RD_SNAP_FIELD_HI_2 (R175). -/
def execRdSnapFieldHi2 (s : State) : Host.Outcome State Fault Refusal :=
  .next (answerRead (snapFieldHi .heating s) s)

/-- RD_SNAP_FIELD_LO_3 (R175). -/
def execRdSnapFieldLo3 (s : State) : Host.Outcome State Fault Refusal :=
  .next (answerRead (snapFieldLo .filter s) s)

/-- RD_SNAP_FIELD_HI_3 (R175). -/
def execRdSnapFieldHi3 (s : State) : Host.Outcome State Fault Refusal :=
  .next (answerRead (snapFieldHi .filter s) s)

/-- RD_SNAP_FIELD_LO_4 (R175). -/
def execRdSnapFieldLo4 (s : State) : Host.Outcome State Fault Refusal :=
  .next (answerRead (snapFieldLo .bubbles s) s)

/-- RD_SNAP_FIELD_HI_4 (R175). -/
def execRdSnapFieldHi4 (s : State) : Host.Outcome State Fault Refusal :=
  .next (answerRead (snapFieldHi .bubbles s) s)

/-- RD_SNAP_FIELD_LO_5 (R175). -/
def execRdSnapFieldLo5 (s : State) : Host.Outcome State Fault Refusal :=
  .next (answerRead (snapFieldLo .jets s) s)

/-- RD_SNAP_FIELD_HI_5 (R175). -/
def execRdSnapFieldHi5 (s : State) : Host.Outcome State Fault Refusal :=
  .next (answerRead (snapFieldHi .jets s) s)

/-- RD_SNAP_FIELD_LO_6 (R175). -/
def execRdSnapFieldLo6 (s : State) : Host.Outcome State Fault Refusal :=
  .next (answerRead (snapFieldLo .locked s) s)

/-- RD_SNAP_FIELD_HI_6 (R175). -/
def execRdSnapFieldHi6 (s : State) : Host.Outcome State Fault Refusal :=
  .next (answerRead (snapFieldHi .locked s) s)

/-- RD_SNAP_FIELD_LO_7 (R175). -/
def execRdSnapFieldLo7 (s : State) : Host.Outcome State Fault Refusal :=
  .next (answerRead (snapFieldLo .power s) s)

/-- RD_SNAP_FIELD_HI_7 (R175). -/
def execRdSnapFieldHi7 (s : State) : Host.Outcome State Fault Refusal :=
  .next (answerRead (snapFieldHi .power s) s)

/-- RD_SNAP_FIELD_LO_8 (R175). -/
def execRdSnapFieldLo8 (s : State) : Host.Outcome State Fault Refusal :=
  .next (answerRead (snapFieldLo .error s) s)

/-- RD_SNAP_FIELD_HI_8 (R175). -/
def execRdSnapFieldHi8 (s : State) : Host.Outcome State Fault Refusal :=
  .next (answerRead (snapFieldHi .error s) s)

/-- RD_SNAP_FIELD_LO_9 (R175). -/
def execRdSnapFieldLo9 (s : State) : Host.Outcome State Fault Refusal :=
  .next (answerRead (snapFieldLo .errorCode s) s)

/-- RD_SNAP_FIELD_HI_9 (R175). -/
def execRdSnapFieldHi9 (s : State) : Host.Outcome State Fault Refusal :=
  .next (answerRead (snapFieldHi .errorCode s) s)

/-- RD_SNAP_FIELD_LO_10 (R175). -/
def execRdSnapFieldLo10 (s : State) : Host.Outcome State Fault Refusal :=
  .next (answerRead (snapFieldLo .displayText s) s)

/-- RD_SNAP_FIELD_HI_10 (R175). -/
def execRdSnapFieldHi10 (s : State) : Host.Outcome State Fault Refusal :=
  .next (answerRead (snapFieldHi .displayText s) s)

end Sys2Proof.Machine
end

