-- ==== Sys2Proof/Machine/ReadOnlyWrites.lean ====
section
/-! DEFINITION. The meanings of writes to read-only registers: nothing changes (R74). -/

namespace Sys2Proof.Machine

/-- WR_INVALID_COUNT__read-only__ignored (R74). -/
def execWrInvalidCountIgnored (_w : Word) (s : State) : Host.Outcome State Fault Refusal :=
  .next (ignoredWrite s)

/-- WR_ERR_CAUSE__read-only__ignored (R74). -/
def execWrErrCauseIgnored (_w : Word) (s : State) : Host.Outcome State Fault Refusal :=
  .next (ignoredWrite s)

/-- WR_SLOT_PENDING__read-only__ignored (R74). -/
def execWrSlotPendingIgnored (_w : Word) (s : State) : Host.Outcome State Fault Refusal :=
  .next (ignoredWrite s)

/-- WR_SLOT_HOLDING__read-only__ignored (R74). -/
def execWrSlotHoldingIgnored (_w : Word) (s : State) : Host.Outcome State Fault Refusal :=
  .next (ignoredWrite s)

/-- WR_SNAP_NOW_LO__read-only__ignored (R74). -/
def execWrSnapNowLoIgnored (_w : Word) (s : State) : Host.Outcome State Fault Refusal :=
  .next (ignoredWrite s)

/-- WR_SNAP_NOW_HI__read-only__ignored (R74). -/
def execWrSnapNowHiIgnored (_w : Word) (s : State) : Host.Outcome State Fault Refusal :=
  .next (ignoredWrite s)

/-- WR_SNAP_LAST_UPDATE_LO__read-only__ignored (R74). -/
def execWrSnapLastUpdateLoIgnored (_w : Word) (s : State) : Host.Outcome State Fault Refusal :=
  .next (ignoredWrite s)

/-- WR_SNAP_LAST_UPDATE_HI__read-only__ignored (R74). -/
def execWrSnapLastUpdateHiIgnored (_w : Word) (s : State) : Host.Outcome State Fault Refusal :=
  .next (ignoredWrite s)

/-- WR_SNAP_VALID__read-only__ignored (R74). -/
def execWrSnapValidIgnored (_w : Word) (s : State) : Host.Outcome State Fault Refusal :=
  .next (ignoredWrite s)

/-- WR_SNAP_FIELD_LO_0___read-only__ignored (R74). -/
def execWrSnapFieldLo0Ignored (_w : Word) (s : State) : Host.Outcome State Fault Refusal :=
  .next (ignoredWrite s)

/-- WR_SNAP_FIELD_HI_0___read-only__ignored (R74). -/
def execWrSnapFieldHi0Ignored (_w : Word) (s : State) : Host.Outcome State Fault Refusal :=
  .next (ignoredWrite s)

/-- WR_SNAP_FIELD_LO_1___read-only__ignored (R74). -/
def execWrSnapFieldLo1Ignored (_w : Word) (s : State) : Host.Outcome State Fault Refusal :=
  .next (ignoredWrite s)

/-- WR_SNAP_FIELD_HI_1___read-only__ignored (R74). -/
def execWrSnapFieldHi1Ignored (_w : Word) (s : State) : Host.Outcome State Fault Refusal :=
  .next (ignoredWrite s)

/-- WR_SNAP_FIELD_LO_2___read-only__ignored (R74). -/
def execWrSnapFieldLo2Ignored (_w : Word) (s : State) : Host.Outcome State Fault Refusal :=
  .next (ignoredWrite s)

/-- WR_SNAP_FIELD_HI_2___read-only__ignored (R74). -/
def execWrSnapFieldHi2Ignored (_w : Word) (s : State) : Host.Outcome State Fault Refusal :=
  .next (ignoredWrite s)

/-- WR_SNAP_FIELD_LO_3___read-only__ignored (R74). -/
def execWrSnapFieldLo3Ignored (_w : Word) (s : State) : Host.Outcome State Fault Refusal :=
  .next (ignoredWrite s)

/-- WR_SNAP_FIELD_HI_3___read-only__ignored (R74). -/
def execWrSnapFieldHi3Ignored (_w : Word) (s : State) : Host.Outcome State Fault Refusal :=
  .next (ignoredWrite s)

/-- WR_SNAP_FIELD_LO_4___read-only__ignored (R74). -/
def execWrSnapFieldLo4Ignored (_w : Word) (s : State) : Host.Outcome State Fault Refusal :=
  .next (ignoredWrite s)

/-- WR_SNAP_FIELD_HI_4___read-only__ignored (R74). -/
def execWrSnapFieldHi4Ignored (_w : Word) (s : State) : Host.Outcome State Fault Refusal :=
  .next (ignoredWrite s)

/-- WR_SNAP_FIELD_LO_5___read-only__ignored (R74). -/
def execWrSnapFieldLo5Ignored (_w : Word) (s : State) : Host.Outcome State Fault Refusal :=
  .next (ignoredWrite s)

/-- WR_SNAP_FIELD_HI_5___read-only__ignored (R74). -/
def execWrSnapFieldHi5Ignored (_w : Word) (s : State) : Host.Outcome State Fault Refusal :=
  .next (ignoredWrite s)

/-- WR_SNAP_FIELD_LO_6___read-only__ignored (R74). -/
def execWrSnapFieldLo6Ignored (_w : Word) (s : State) : Host.Outcome State Fault Refusal :=
  .next (ignoredWrite s)

/-- WR_SNAP_FIELD_HI_6___read-only__ignored (R74). -/
def execWrSnapFieldHi6Ignored (_w : Word) (s : State) : Host.Outcome State Fault Refusal :=
  .next (ignoredWrite s)

/-- WR_SNAP_FIELD_LO_7___read-only__ignored (R74). -/
def execWrSnapFieldLo7Ignored (_w : Word) (s : State) : Host.Outcome State Fault Refusal :=
  .next (ignoredWrite s)

/-- WR_SNAP_FIELD_HI_7___read-only__ignored (R74). -/
def execWrSnapFieldHi7Ignored (_w : Word) (s : State) : Host.Outcome State Fault Refusal :=
  .next (ignoredWrite s)

/-- WR_SNAP_FIELD_LO_8___read-only__ignored (R74). -/
def execWrSnapFieldLo8Ignored (_w : Word) (s : State) : Host.Outcome State Fault Refusal :=
  .next (ignoredWrite s)

/-- WR_SNAP_FIELD_HI_8___read-only__ignored (R74). -/
def execWrSnapFieldHi8Ignored (_w : Word) (s : State) : Host.Outcome State Fault Refusal :=
  .next (ignoredWrite s)

/-- WR_SNAP_FIELD_LO_9___read-only__ignored (R74). -/
def execWrSnapFieldLo9Ignored (_w : Word) (s : State) : Host.Outcome State Fault Refusal :=
  .next (ignoredWrite s)

/-- WR_SNAP_FIELD_HI_9___read-only__ignored (R74). -/
def execWrSnapFieldHi9Ignored (_w : Word) (s : State) : Host.Outcome State Fault Refusal :=
  .next (ignoredWrite s)

/-- WR_SNAP_FIELD_LO_10___read-only__ignored (R74). -/
def execWrSnapFieldLo10Ignored (_w : Word) (s : State) : Host.Outcome State Fault Refusal :=
  .next (ignoredWrite s)

/-- WR_SNAP_FIELD_HI_10___read-only__ignored (R74). -/
def execWrSnapFieldHi10Ignored (_w : Word) (s : State) : Host.Outcome State Fault Refusal :=
  .next (ignoredWrite s)

end Sys2Proof.Machine
end

