-- ==== Sys2Proof/Machine/ReservedOffsets.lean ====
section
/-! DEFINITION. The meanings of transactions at reserved offsets (R74) and of misaligned transactions, which are refused (R72). -/

namespace Sys2Proof.Machine

/-- WR_reserved_0x044..0x044__ignored (R74). -/
def execWrReserved044 (_w : Word) (s : State) : Host.Outcome State Fault Refusal :=
  .next (ignoredWrite s)

/-- RD_reserved_0x044..0x044__reads_0 (R74). -/
def execRdReserved044 (s : State) : Host.Outcome State Fault Refusal :=
  .next (answerRead zeroWord s)

/-- WR_reserved_0x048..0x04C__ignored (R74). -/
def execWrReserved048 (_off : Offset) (_w : Word) (s : State) : Host.Outcome State Fault Refusal :=
  .next (ignoredWrite s)

/-- RD_reserved_0x048..0x04C__reads_0 (R74). -/
def execRdReserved048 (_off : Offset) (s : State) : Host.Outcome State Fault Refusal :=
  .next (answerRead zeroWord s)

/-- WR_reserved_0x050..0x05C__ignored (R74). -/
def execWrReserved050 (_off : Offset) (_w : Word) (s : State) : Host.Outcome State Fault Refusal :=
  .next (ignoredWrite s)

/-- RD_reserved_0x050..0x05C__reads_0 (R74). -/
def execRdReserved050 (_off : Offset) (s : State) : Host.Outcome State Fault Refusal :=
  .next (answerRead zeroWord s)

/-- WR_reserved_0x060..0x07C__ignored (R74). -/
def execWrReserved060 (_off : Offset) (_w : Word) (s : State) : Host.Outcome State Fault Refusal :=
  .next (ignoredWrite s)

/-- RD_reserved_0x060..0x07C__reads_0 (R74). -/
def execRdReserved060 (_off : Offset) (s : State) : Host.Outcome State Fault Refusal :=
  .next (answerRead zeroWord s)

/-- WR_reserved_0x0D8..0x0DC__ignored (R74). -/
def execWrReserved0D8 (_off : Offset) (_w : Word) (s : State) : Host.Outcome State Fault Refusal :=
  .next (ignoredWrite s)

/-- RD_reserved_0x0D8..0x0DC__reads_0 (R74). -/
def execRdReserved0D8 (_off : Offset) (s : State) : Host.Outcome State Fault Refusal :=
  .next (answerRead zeroWord s)

/-- WR_reserved_0x0E0..0x0FC__ignored (R74). -/
def execWrReserved0E0 (_off : Offset) (_w : Word) (s : State) : Host.Outcome State Fault Refusal :=
  .next (ignoredWrite s)

/-- RD_reserved_0x0E0..0x0FC__reads_0 (R74). -/
def execRdReserved0E0 (_off : Offset) (s : State) : Host.Outcome State Fault Refusal :=
  .next (answerRead zeroWord s)

/-- WR_reserved_0x100..0x1FC__ignored (R74). -/
def execWrReserved100 (_off : Offset) (_w : Word) (s : State) : Host.Outcome State Fault Refusal :=
  .next (ignoredWrite s)

/-- RD_reserved_0x100..0x1FC__reads_0 (R74). -/
def execRdReserved100 (_off : Offset) (s : State) : Host.Outcome State Fault Refusal :=
  .next (answerRead zeroWord s)

/-- WR_reserved_0x200..0x3FC__ignored (R74). -/
def execWrReserved200 (_off : Offset) (_w : Word) (s : State) : Host.Outcome State Fault Refusal :=
  .next (ignoredWrite s)

/-- RD_reserved_0x200..0x3FC__reads_0 (R74). -/
def execRdReserved200 (_off : Offset) (s : State) : Host.Outcome State Fault Refusal :=
  .next (answerRead zeroWord s)

/-- WR_reserved_0x400..0x7FC__ignored (R74). -/
def execWrReserved400 (_off : Offset) (_w : Word) (s : State) : Host.Outcome State Fault Refusal :=
  .next (ignoredWrite s)

/-- RD_reserved_0x400..0x7FC__reads_0 (R74). -/
def execRdReserved400 (_off : Offset) (s : State) : Host.Outcome State Fault Refusal :=
  .next (answerRead zeroWord s)

/-- WR_reserved_0x800..0xFFC__ignored (R74). -/
def execWrReserved800 (_off : Offset) (_w : Word) (s : State) : Host.Outcome State Fault Refusal :=
  .next (ignoredWrite s)

/-- RD_reserved_0x800..0xFFC__reads_0 (R74). -/
def execRdReserved800 (_off : Offset) (s : State) : Host.Outcome State Fault Refusal :=
  .next (answerRead zeroWord s)

/-- WR_misaligned__off_0__1__refused (R72). -/
def execWrMisalignedOff0 (off : Offset) (_w : Word) (_s : State) : Host.Outcome State Fault Refusal :=
  .refused (.misalignedTransaction off)

/-- RD_misaligned__off_0__1__refused (R72). -/
def execRdMisalignedOff0 (off : Offset) (_s : State) : Host.Outcome State Fault Refusal :=
  .refused (.misalignedTransaction off)

/-- WR_misaligned__off_1__1__refused (R72). -/
def execWrMisalignedOff1 (off : Offset) (_w : Word) (_s : State) : Host.Outcome State Fault Refusal :=
  .refused (.misalignedTransaction off)

/-- RD_misaligned__off_1__1__refused (R72). -/
def execRdMisalignedOff1 (off : Offset) (_s : State) : Host.Outcome State Fault Refusal :=
  .refused (.misalignedTransaction off)

end Sys2Proof.Machine
end

