-- ==== Sys2Proof/Machine/Dispatch.lean ====
section
/-! DEFINITION. The dispatch: one arm per operation, each a call of its meaning. -/

namespace Sys2Proof.Machine

def exec (i : Instr) (s : State) : Host.Outcome State Fault Refusal :=
  match i with
  | .wrCfg w => Sys2Proof.Machine.execWrCfg w s
  | .wrCtrlStart w => Sys2Proof.Machine.execWrCtrlStart w s
  | .wrCtrlNoStart w => Sys2Proof.Machine.execWrCtrlNoStart w s
  | .wrStatus w => Sys2Proof.Machine.execWrStatus w s
  | .wrBtnEnable w => Sys2Proof.Machine.execWrBtnEnable w s
  | .wrDelivered w => Sys2Proof.Machine.execWrDelivered w s
  | .wrFailed w => Sys2Proof.Machine.execWrFailed w s
  | .wrSnap w => Sys2Proof.Machine.execWrSnap w s
  | .pressHeater => Sys2Proof.Machine.execPressHeater s
  | .pressFilter => Sys2Proof.Machine.execPressFilter s
  | .pressBubbles => Sys2Proof.Machine.execPressBubbles s
  | .pressJets => Sys2Proof.Machine.execPressJets s
  | .pressLock => Sys2Proof.Machine.execPressLock s
  | .pressPower => Sys2Proof.Machine.execPressPower s
  | .pressUnit => Sys2Proof.Machine.execPressUnit s
  | .pressTimer => Sys2Proof.Machine.execPressTimer s
  | .pressUp => Sys2Proof.Machine.execPressUp s
  | .pressDown => Sys2Proof.Machine.execPressDown s
  | .holdHeater => Sys2Proof.Machine.execHoldHeater s
  | .holdFilter => Sys2Proof.Machine.execHoldFilter s
  | .holdBubbles => Sys2Proof.Machine.execHoldBubbles s
  | .holdJets => Sys2Proof.Machine.execHoldJets s
  | .holdLock => Sys2Proof.Machine.execHoldLock s
  | .holdPower => Sys2Proof.Machine.execHoldPower s
  | .holdUnit => Sys2Proof.Machine.execHoldUnit s
  | .holdTimer => Sys2Proof.Machine.execHoldTimer s
  | .holdUp => Sys2Proof.Machine.execHoldUp s
  | .holdDown => Sys2Proof.Machine.execHoldDown s
  | .releaseHeater => Sys2Proof.Machine.execReleaseHeater s
  | .releaseFilter => Sys2Proof.Machine.execReleaseFilter s
  | .releaseBubbles => Sys2Proof.Machine.execReleaseBubbles s
  | .releaseJets => Sys2Proof.Machine.execReleaseJets s
  | .releaseLock => Sys2Proof.Machine.execReleaseLock s
  | .releasePower => Sys2Proof.Machine.execReleasePower s
  | .releaseUnit => Sys2Proof.Machine.execReleaseUnit s
  | .releaseTimer => Sys2Proof.Machine.execReleaseTimer s
  | .releaseUp => Sys2Proof.Machine.execReleaseUp s
  | .releaseDown => Sys2Proof.Machine.execReleaseDown s
  | .wrCmdIllegalAction3 button => Sys2Proof.Machine.execWrCmdIllegalAction3 button s
  | .wrCmdIllegalButton10 action low => Sys2Proof.Machine.execWrCmdIllegalButton10 action low s
  | .wrCmdIllegalButton12 action low => Sys2Proof.Machine.execWrCmdIllegalButton12 action low s
  | .wrCmdIllegalBit6 w => Sys2Proof.Machine.execWrCmdIllegalBit6 w s
  | .wrCmdIllegalBit7 w => Sys2Proof.Machine.execWrCmdIllegalBit7 w s
  | .wrCmdIllegalBit8 w => Sys2Proof.Machine.execWrCmdIllegalBit8 w s
  | .wrCmdIllegalBit9 w => Sys2Proof.Machine.execWrCmdIllegalBit9 w s
  | .wrCmdIllegalBit10 w => Sys2Proof.Machine.execWrCmdIllegalBit10 w s
  | .wrCmdIllegalBit11 w => Sys2Proof.Machine.execWrCmdIllegalBit11 w s
  | .wrCmdIllegalBit12 w => Sys2Proof.Machine.execWrCmdIllegalBit12 w s
  | .wrCmdIllegalBit13 w => Sys2Proof.Machine.execWrCmdIllegalBit13 w s
  | .wrCmdIllegalBit14 w => Sys2Proof.Machine.execWrCmdIllegalBit14 w s
  | .wrCmdIllegalBit15 w => Sys2Proof.Machine.execWrCmdIllegalBit15 w s
  | .wrCmdIllegalBit16 w => Sys2Proof.Machine.execWrCmdIllegalBit16 w s
  | .wrCmdIllegalBit17 w => Sys2Proof.Machine.execWrCmdIllegalBit17 w s
  | .wrCmdIllegalBit18 w => Sys2Proof.Machine.execWrCmdIllegalBit18 w s
  | .wrCmdIllegalBit19 w => Sys2Proof.Machine.execWrCmdIllegalBit19 w s
  | .wrCmdIllegalBit20 w => Sys2Proof.Machine.execWrCmdIllegalBit20 w s
  | .wrCmdIllegalBit21 w => Sys2Proof.Machine.execWrCmdIllegalBit21 w s
  | .wrCmdIllegalBit22 w => Sys2Proof.Machine.execWrCmdIllegalBit22 w s
  | .wrCmdIllegalBit23 w => Sys2Proof.Machine.execWrCmdIllegalBit23 w s
  | .wrCmdIllegalBit24 w => Sys2Proof.Machine.execWrCmdIllegalBit24 w s
  | .wrCmdIllegalBit25 w => Sys2Proof.Machine.execWrCmdIllegalBit25 w s
  | .wrCmdIllegalBit26 w => Sys2Proof.Machine.execWrCmdIllegalBit26 w s
  | .wrCmdIllegalBit27 w => Sys2Proof.Machine.execWrCmdIllegalBit27 w s
  | .wrCmdIllegalBit28 w => Sys2Proof.Machine.execWrCmdIllegalBit28 w s
  | .wrCmdIllegalBit29 w => Sys2Proof.Machine.execWrCmdIllegalBit29 w s
  | .wrCmdIllegalBit30 w => Sys2Proof.Machine.execWrCmdIllegalBit30 w s
  | .wrCmdIllegalBit31 w => Sys2Proof.Machine.execWrCmdIllegalBit31 w s
  | .wrInvalidCountIgnored w => Sys2Proof.Machine.execWrInvalidCountIgnored w s
  | .wrErrCauseIgnored w => Sys2Proof.Machine.execWrErrCauseIgnored w s
  | .wrSlotPendingIgnored w => Sys2Proof.Machine.execWrSlotPendingIgnored w s
  | .wrSlotHoldingIgnored w => Sys2Proof.Machine.execWrSlotHoldingIgnored w s
  | .wrSnapNowLoIgnored w => Sys2Proof.Machine.execWrSnapNowLoIgnored w s
  | .wrSnapNowHiIgnored w => Sys2Proof.Machine.execWrSnapNowHiIgnored w s
  | .wrSnapLastUpdateLoIgnored w => Sys2Proof.Machine.execWrSnapLastUpdateLoIgnored w s
  | .wrSnapLastUpdateHiIgnored w => Sys2Proof.Machine.execWrSnapLastUpdateHiIgnored w s
  | .wrSnapValidIgnored w => Sys2Proof.Machine.execWrSnapValidIgnored w s
  | .wrSnapFieldLo0Ignored w => Sys2Proof.Machine.execWrSnapFieldLo0Ignored w s
  | .wrSnapFieldHi0Ignored w => Sys2Proof.Machine.execWrSnapFieldHi0Ignored w s
  | .wrSnapFieldLo1Ignored w => Sys2Proof.Machine.execWrSnapFieldLo1Ignored w s
  | .wrSnapFieldHi1Ignored w => Sys2Proof.Machine.execWrSnapFieldHi1Ignored w s
  | .wrSnapFieldLo2Ignored w => Sys2Proof.Machine.execWrSnapFieldLo2Ignored w s
  | .wrSnapFieldHi2Ignored w => Sys2Proof.Machine.execWrSnapFieldHi2Ignored w s
  | .wrSnapFieldLo3Ignored w => Sys2Proof.Machine.execWrSnapFieldLo3Ignored w s
  | .wrSnapFieldHi3Ignored w => Sys2Proof.Machine.execWrSnapFieldHi3Ignored w s
  | .wrSnapFieldLo4Ignored w => Sys2Proof.Machine.execWrSnapFieldLo4Ignored w s
  | .wrSnapFieldHi4Ignored w => Sys2Proof.Machine.execWrSnapFieldHi4Ignored w s
  | .wrSnapFieldLo5Ignored w => Sys2Proof.Machine.execWrSnapFieldLo5Ignored w s
  | .wrSnapFieldHi5Ignored w => Sys2Proof.Machine.execWrSnapFieldHi5Ignored w s
  | .wrSnapFieldLo6Ignored w => Sys2Proof.Machine.execWrSnapFieldLo6Ignored w s
  | .wrSnapFieldHi6Ignored w => Sys2Proof.Machine.execWrSnapFieldHi6Ignored w s
  | .wrSnapFieldLo7Ignored w => Sys2Proof.Machine.execWrSnapFieldLo7Ignored w s
  | .wrSnapFieldHi7Ignored w => Sys2Proof.Machine.execWrSnapFieldHi7Ignored w s
  | .wrSnapFieldLo8Ignored w => Sys2Proof.Machine.execWrSnapFieldLo8Ignored w s
  | .wrSnapFieldHi8Ignored w => Sys2Proof.Machine.execWrSnapFieldHi8Ignored w s
  | .wrSnapFieldLo9Ignored w => Sys2Proof.Machine.execWrSnapFieldLo9Ignored w s
  | .wrSnapFieldHi9Ignored w => Sys2Proof.Machine.execWrSnapFieldHi9Ignored w s
  | .wrSnapFieldLo10Ignored w => Sys2Proof.Machine.execWrSnapFieldLo10Ignored w s
  | .wrSnapFieldHi10Ignored w => Sys2Proof.Machine.execWrSnapFieldHi10Ignored w s
  | .wrReserved044 w => Sys2Proof.Machine.execWrReserved044 w s
  | .rdReserved044 => Sys2Proof.Machine.execRdReserved044 s
  | .wrReserved048 off w => Sys2Proof.Machine.execWrReserved048 off w s
  | .rdReserved048 off => Sys2Proof.Machine.execRdReserved048 off s
  | .wrReserved050 off w => Sys2Proof.Machine.execWrReserved050 off w s
  | .rdReserved050 off => Sys2Proof.Machine.execRdReserved050 off s
  | .wrReserved060 off w => Sys2Proof.Machine.execWrReserved060 off w s
  | .rdReserved060 off => Sys2Proof.Machine.execRdReserved060 off s
  | .wrReserved0D8 off w => Sys2Proof.Machine.execWrReserved0D8 off w s
  | .rdReserved0D8 off => Sys2Proof.Machine.execRdReserved0D8 off s
  | .wrReserved0E0 off w => Sys2Proof.Machine.execWrReserved0E0 off w s
  | .rdReserved0E0 off => Sys2Proof.Machine.execRdReserved0E0 off s
  | .wrReserved100 off w => Sys2Proof.Machine.execWrReserved100 off w s
  | .rdReserved100 off => Sys2Proof.Machine.execRdReserved100 off s
  | .wrReserved200 off w => Sys2Proof.Machine.execWrReserved200 off w s
  | .rdReserved200 off => Sys2Proof.Machine.execRdReserved200 off s
  | .wrReserved400 off w => Sys2Proof.Machine.execWrReserved400 off w s
  | .rdReserved400 off => Sys2Proof.Machine.execRdReserved400 off s
  | .wrReserved800 off w => Sys2Proof.Machine.execWrReserved800 off w s
  | .rdReserved800 off => Sys2Proof.Machine.execRdReserved800 off s
  | .wrMisalignedOff0 off w => Sys2Proof.Machine.execWrMisalignedOff0 off w s
  | .rdMisalignedOff0 off => Sys2Proof.Machine.execRdMisalignedOff0 off s
  | .wrMisalignedOff1 off w => Sys2Proof.Machine.execWrMisalignedOff1 off w s
  | .rdMisalignedOff1 off => Sys2Proof.Machine.execRdMisalignedOff1 off s
  | .rdCfg => Sys2Proof.Machine.execRdCfg s
  | .rdCtrl => Sys2Proof.Machine.execRdCtrl s
  | .rdStatus => Sys2Proof.Machine.execRdStatus s
  | .rdInvalidCount => Sys2Proof.Machine.execRdInvalidCount s
  | .rdErrCause => Sys2Proof.Machine.execRdErrCause s
  | .rdBtnEnable => Sys2Proof.Machine.execRdBtnEnable s
  | .rdCmd => Sys2Proof.Machine.execRdCmd s
  | .rdSlotPending => Sys2Proof.Machine.execRdSlotPending s
  | .rdSlotHolding => Sys2Proof.Machine.execRdSlotHolding s
  | .rdDelivered => Sys2Proof.Machine.execRdDelivered s
  | .rdFailed => Sys2Proof.Machine.execRdFailed s
  | .rdSnap => Sys2Proof.Machine.execRdSnap s
  | .rdSnapNowLo => Sys2Proof.Machine.execRdSnapNowLo s
  | .rdSnapNowHi => Sys2Proof.Machine.execRdSnapNowHi s
  | .rdSnapLastUpdateLo => Sys2Proof.Machine.execRdSnapLastUpdateLo s
  | .rdSnapLastUpdateHi => Sys2Proof.Machine.execRdSnapLastUpdateHi s
  | .rdSnapValid => Sys2Proof.Machine.execRdSnapValid s
  | .rdSnapFieldLo0 => Sys2Proof.Machine.execRdSnapFieldLo0 s
  | .rdSnapFieldHi0 => Sys2Proof.Machine.execRdSnapFieldHi0 s
  | .rdSnapFieldLo1 => Sys2Proof.Machine.execRdSnapFieldLo1 s
  | .rdSnapFieldHi1 => Sys2Proof.Machine.execRdSnapFieldHi1 s
  | .rdSnapFieldLo2 => Sys2Proof.Machine.execRdSnapFieldLo2 s
  | .rdSnapFieldHi2 => Sys2Proof.Machine.execRdSnapFieldHi2 s
  | .rdSnapFieldLo3 => Sys2Proof.Machine.execRdSnapFieldLo3 s
  | .rdSnapFieldHi3 => Sys2Proof.Machine.execRdSnapFieldHi3 s
  | .rdSnapFieldLo4 => Sys2Proof.Machine.execRdSnapFieldLo4 s
  | .rdSnapFieldHi4 => Sys2Proof.Machine.execRdSnapFieldHi4 s
  | .rdSnapFieldLo5 => Sys2Proof.Machine.execRdSnapFieldLo5 s
  | .rdSnapFieldHi5 => Sys2Proof.Machine.execRdSnapFieldHi5 s
  | .rdSnapFieldLo6 => Sys2Proof.Machine.execRdSnapFieldLo6 s
  | .rdSnapFieldHi6 => Sys2Proof.Machine.execRdSnapFieldHi6 s
  | .rdSnapFieldLo7 => Sys2Proof.Machine.execRdSnapFieldLo7 s
  | .rdSnapFieldHi7 => Sys2Proof.Machine.execRdSnapFieldHi7 s
  | .rdSnapFieldLo8 => Sys2Proof.Machine.execRdSnapFieldLo8 s
  | .rdSnapFieldHi8 => Sys2Proof.Machine.execRdSnapFieldHi8 s
  | .rdSnapFieldLo9 => Sys2Proof.Machine.execRdSnapFieldLo9 s
  | .rdSnapFieldHi9 => Sys2Proof.Machine.execRdSnapFieldHi9 s
  | .rdSnapFieldLo10 => Sys2Proof.Machine.execRdSnapFieldLo10 s
  | .rdSnapFieldHi10 => Sys2Proof.Machine.execRdSnapFieldHi10 s
  | .idleLine kPrev kCur d => Sys2Proof.Machine.execIdleLine kPrev kCur d s
  | .csAssert kPrev kCur d => Sys2Proof.Machine.execCsAssert kPrev kCur d s
  | .csDeassert kPrev kCur d => Sys2Proof.Machine.execCsDeassert kPrev kCur d s
  | .bit d => Sys2Proof.Machine.execBit d s
  | .heldInactive d => Sys2Proof.Machine.execHeldInactive d s
  | .heldReturn d => Sys2Proof.Machine.execHeldReturn d s
  | .heldActive d => Sys2Proof.Machine.execHeldActive d s

end Sys2Proof.Machine
end

