-- ==== Sys2Proof/Machine/Tick.lean ====
section
/-! DEFINITION. What one input does. A host transaction runs its decoded operation between ticks (R76); a clock edge is a tick
(R250), in which the sampler's event word is decoded and its operation, the decoder's step, runs between the sampler and the
later phases; a clock edge with RST asserted resets (R330). -/

namespace Sys2Proof.Machine

/-- A clock edge with the CIO levels `x` (R250, R273, R31). -/
def stepTick (x : Sample) (s : State) : Host.Outcome State Fault Refusal :=
  match s.run with
  | .config => .next s
  | .configError => .next s
  | .running p =>
    if s.dec.state.settled then
      match (tickHead p x s).sig.event with
      | none => .next (tickTail p x (tickHead p x s))
      | some e => thenNext (exec (decode (.busEvent e)) (tickHead p x s)) (tickTail p x)
    else .fault .decoderNotSettled

/-- A clock edge: a reset where RST is asserted (R330), a tick otherwise. -/
def stepClock (x : Sample) (s : State) : Host.Outcome State Fault Refusal :=
  if s.env.rst then .next (resetBlock s) else stepTick x s

/-- A host transaction of `bytes` bytes: refused at another width than four bytes, RST asserted or not (R72); else its decoded
operation (R76), which refuses a misaligned offset and whose effect is discarded while RST is asserted (R330; log 8). -/
def stepTransaction (bytes : Nat) (op : OpWord) (s : State) : Host.Outcome State Fault Refusal :=
  if bytes = 4 then
    if s.env.rst then thenNext (exec (decode op) s) fun _ => s else exec (decode op) s
  else .refused (.transactionWidth bytes)

/-- What the input `i` does to the machine (R4, R76). -/
def runInput (i : Input) (s : State) : Host.Outcome State Fault Refusal :=
  match i with
  | .clock x => stepClock x s
  | .write n t => stepTransaction n (.hostWrite t) s
  | .read n off => stepTransaction n (.hostRead off) s
  | .rst l => .next { s with env := { s.env with rst := l } }

end Sys2Proof.Machine
end

