-- ==== Sys2Proof/Machine/Step.lean ====
section
/-! DEFINITION. One step: the next input is taken and run; and the placing of an operation word where the next step takes it. -/

namespace Sys2Proof.Machine

/-- One step of the machine (R4, R76): the next thing the outside world does. -/
def step (s : State) : Host.Outcome State Fault Refusal := runInput (fetch s).1 (fetch s).2

/-- `s` with the operation word in `nbits` bits of value `w` placed where the step takes its next input, so that the very next
step runs it; `s` itself where the bits are no operation word (log 1, log 11). -/
def State.withFetchWord (s : State) (nbits w : Nat) : State :=
  match OpWord.ofBits nbits w with
  | .ok op => placeOp op s
  | .error _ => s

end Sys2Proof.Machine
end

