-- ==== Sys2Proof/Certificates/Slice0/Families.lean ====
section
/-! DEFINITION. Names for groups of operations of one shape, so that one statement can speak of every constructor of the group,
and the words in which the statements say what an operation answers. -/

namespace Sys2Proof.Machine

/-- PRESS b, the row of each button. -/
def pressInstr : ButtonId → Instr
  | .heater => .pressHeater
  | .filter => .pressFilter
  | .bubbles => .pressBubbles
  | .jets => .pressJets
  | .lock => .pressLock
  | .power => .pressPower
  | .unit => .pressUnit
  | .timer => .pressTimer
  | .up => .pressUp
  | .down => .pressDown

/-- HOLD b, the row of each button. -/
def holdInstr : ButtonId → Instr
  | .heater => .holdHeater
  | .filter => .holdFilter
  | .bubbles => .holdBubbles
  | .jets => .holdJets
  | .lock => .holdLock
  | .power => .holdPower
  | .unit => .holdUnit
  | .timer => .holdTimer
  | .up => .holdUp
  | .down => .holdDown

/-- RELEASE b, the row of each button. -/
def releaseInstr : ButtonId → Instr
  | .heater => .releaseHeater
  | .filter => .releaseFilter
  | .bubbles => .releaseBubbles
  | .jets => .releaseJets
  | .lock => .releaseLock
  | .power => .releasePower
  | .unit => .releaseUnit
  | .timer => .releaseTimer
  | .up => .releaseUp
  | .down => .releaseDown

/-- RD SNAP_FIELD_LO[f], the row of each field. -/
def snapFieldLoInstr : FieldId → Instr
  | .currentTemperature => .rdSnapFieldLo0
  | .targetTemperature => .rdSnapFieldLo1
  | .heating => .rdSnapFieldLo2
  | .filter => .rdSnapFieldLo3
  | .bubbles => .rdSnapFieldLo4
  | .jets => .rdSnapFieldLo5
  | .locked => .rdSnapFieldLo6
  | .power => .rdSnapFieldLo7
  | .error => .rdSnapFieldLo8
  | .errorCode => .rdSnapFieldLo9
  | .displayText => .rdSnapFieldLo10

/-- RD SNAP_FIELD_HI[f], the row of each field. -/
def snapFieldHiInstr : FieldId → Instr
  | .currentTemperature => .rdSnapFieldHi0
  | .targetTemperature => .rdSnapFieldHi1
  | .heating => .rdSnapFieldHi2
  | .filter => .rdSnapFieldHi3
  | .bubbles => .rdSnapFieldHi4
  | .jets => .rdSnapFieldHi5
  | .locked => .rdSnapFieldHi6
  | .power => .rdSnapFieldHi7
  | .error => .rdSnapFieldHi8
  | .errorCode => .rdSnapFieldHi9
  | .displayText => .rdSnapFieldHi10

/-- The 29 rows of illegal command words. -/
def illegalCommandRows (button : BitVec 4) (action : BitVec 2) (low1 : BitVec 1) (low2 : BitVec 2) (w : Word) : List Instr :=
  [.wrCmdIllegalAction3 button, .wrCmdIllegalButton10 action low1, .wrCmdIllegalButton12 action low2,
    .wrCmdIllegalBit6 w, .wrCmdIllegalBit7 w, .wrCmdIllegalBit8 w, .wrCmdIllegalBit9 w, .wrCmdIllegalBit10 w,
    .wrCmdIllegalBit11 w, .wrCmdIllegalBit12 w, .wrCmdIllegalBit13 w, .wrCmdIllegalBit14 w, .wrCmdIllegalBit15 w,
    .wrCmdIllegalBit16 w, .wrCmdIllegalBit17 w, .wrCmdIllegalBit18 w, .wrCmdIllegalBit19 w, .wrCmdIllegalBit20 w,
    .wrCmdIllegalBit21 w, .wrCmdIllegalBit22 w, .wrCmdIllegalBit23 w, .wrCmdIllegalBit24 w, .wrCmdIllegalBit25 w,
    .wrCmdIllegalBit26 w, .wrCmdIllegalBit27 w, .wrCmdIllegalBit28 w, .wrCmdIllegalBit29 w, .wrCmdIllegalBit30 w,
    .wrCmdIllegalBit31 w]

/-- The 31 rows of writes to read-only registers. -/
def readOnlyWriteRows (w : Word) : List Instr :=
  [.wrInvalidCountIgnored w, .wrErrCauseIgnored w, .wrSlotPendingIgnored w, .wrSlotHoldingIgnored w,
    .wrSnapNowLoIgnored w, .wrSnapNowHiIgnored w, .wrSnapLastUpdateLoIgnored w, .wrSnapLastUpdateHiIgnored w,
    .wrSnapValidIgnored w, .wrSnapFieldLo0Ignored w, .wrSnapFieldHi0Ignored w, .wrSnapFieldLo1Ignored w,
    .wrSnapFieldHi1Ignored w, .wrSnapFieldLo2Ignored w, .wrSnapFieldHi2Ignored w, .wrSnapFieldLo3Ignored w,
    .wrSnapFieldHi3Ignored w, .wrSnapFieldLo4Ignored w, .wrSnapFieldHi4Ignored w, .wrSnapFieldLo5Ignored w,
    .wrSnapFieldHi5Ignored w, .wrSnapFieldLo6Ignored w, .wrSnapFieldHi6Ignored w, .wrSnapFieldLo7Ignored w,
    .wrSnapFieldHi7Ignored w, .wrSnapFieldLo8Ignored w, .wrSnapFieldHi8Ignored w, .wrSnapFieldLo9Ignored w,
    .wrSnapFieldHi9Ignored w, .wrSnapFieldLo10Ignored w, .wrSnapFieldHi10Ignored w]

/-- The 10 rows of writes to reserved offsets. -/
def reservedWriteRows (off : Offset) (w : Word) : List Instr :=
  [.wrReserved044 w, .wrReserved048 off w, .wrReserved050 off w, .wrReserved060 off w, .wrReserved0D8 off w,
    .wrReserved0E0 off w, .wrReserved100 off w, .wrReserved200 off w, .wrReserved400 off w, .wrReserved800 off w]

/-- The reads that give 0: the three write-only registers and the 10 rows of reserved offsets. -/
def zeroReadRows (off : Offset) : List Instr :=
  [.rdCtrl, .rdCmd, .rdSnap,
    .rdReserved044, .rdReserved048 off, .rdReserved050 off, .rdReserved060 off, .rdReserved0D8 off,
    .rdReserved0E0 off, .rdReserved100 off, .rdReserved200 off, .rdReserved400 off, .rdReserved800 off]

/-- The four rows of misaligned transactions. -/
def misalignedRows (off : Offset) (w : Word) : List Instr :=
  [.wrMisalignedOff0 off w, .rdMisalignedOff0 off, .wrMisalignedOff1 off w, .rdMisalignedOff1 off]

/-- The events that change nothing in any decoder state. -/
def idleAndHeldRows (kPrev kCur d : Bool) : List Instr :=
  [.idleLine kPrev kCur d, .heldInactive d, .heldReturn d, .heldActive d]

/-- The operation completes, the port answers `v`, and nothing else changes. -/
def Answers (i : Instr) (s : State) (v : Word) : Prop :=
  exec i s = .next { s with port := { rdata := some v } }

/-- Host operations one after the other, with no tick between (R76). -/
def execAll : List Instr → State → Host.Outcome State Fault Refusal
  | [], s => .next s
  | i :: is, s =>
    match exec i s with
    | .next t => execAll is t
    | .fault r => .fault r
    | .refused r => .refused r

/-- A Press or Hold of `b` is accepted under the profile `p` (R192 step 3). -/
def CanCommand (p : Profile) (b : ButtonId) (s : State) : Prop :=
  s.run = .running p ∧ s.btnEnable.getLsbD b.code = true ∧ (p.buttonCode.get b).isSome = true

/-- A Press or Hold of `b` is refused (R192 step 3). -/
def CannotCommand (b : ButtonId) (s : State) : Prop :=
  (∀ p, s.run ≠ .running p) ∨ s.btnEnable.getLsbD b.code = false ∨ ∃ p, s.run = .running p ∧ p.buttonCode.get b = none

/-- A Running block whose next input is a clock edge with the CIO levels `x`, RST released and the decoder at a tick-boundary
state. -/
def TickDue (p : Profile) (x : Sample) (rest : List Input) (s : State) : Prop :=
  s.run = .running p ∧ s.env.rst = false ∧ s.env.pending = .clock x :: rest ∧ s.dec.state.settled = true

end Sys2Proof.Machine
end

