-- ==== Sys2Proof/Safety.lean ====
section
/-! DEFINITION. What counts as a safe run: the host keeps the port's contract (R72), and the state keeps the invariant that the
spec's prose promises at every tick boundary. -/

namespace Sys2Proof.Machine

/-- The input keeps the port's contract (R72): a transaction moves four bytes at an offset that is a multiple of 4. -/
def Input.inContract : Input → Bool
  | .clock _ => true
  | .write n t => n == 4 && t.extractLsb' 32 2 == 0
  | .read n off => n == 4 && off.extractLsb' 0 2 == 0
  | .rst _ => true

/-- Everything the outside world does next keeps the port's contract. -/
def hostKeepsContract (s : State) : Bool := s.env.pending.all Input.inContract

/-- The outcome is no fault and no refusal. -/
def completes (o : Host.Outcome State Fault Refusal) : Bool :=
  match o with
  | .next _ => true
  | .fault _ => false
  | .refused _ => false

/-- The serializer at a tick boundary: Idle with no source and no time left (R233, R242), or sending bit `idx` of a transmission
of 1 to 256 bits from a source with time left (R231, R232, R233). -/
structure SerInv (r : Serializer) : Prop where
  idle : r.state = .idle → r.src = .none ∧ r.timer = 0
  busy : r.state ≠ .idle → r.src ≠ .none ∧ r.timer ≠ 0 ∧ r.len.toNat ≤ 256 ∧ r.idx.toNat < r.len.toNat

/-- The field bank agrees with the last accepted frame (R151, R262). -/
structure BankInv (p : Profile) (k : FieldBank) : Prop where
  frame : k.lastFrame = p.frame k.lastFrame
  fields : ∀ f o w, p.fieldOffsets.get f = some (o, w) →
    k.raw.get f = assemble k.lastFrame o w p.bitOrder ∧ k.known.get f = (p.decode f (k.raw.get f)).isSome

/-- What holds at a tick boundary of a Running block with profile `p`. -/
structure RunningInv (p : Profile) (s : State) : Prop where
  /-- START accepts only a well-formed profile of a listed topology (R282, R281). -/
  profile : p.wf = true
  topology : s.cfg.topology ≠ 3
  /-- An accumulating frame is short of its last bit (R144). -/
  bits : s.dec.state = .accumulating → s.dec.bitCnt.toNat < p.frameBitCount
  /-- A slot holds a command only for a button with a code (R192). -/
  codes : ∀ b, (s.slots.get b).state ≠ .empty → (p.buttonCode.get b).isSome = true
  serializer : SerInv s.ser
  /-- FourWire drives the bus exactly during its own transmissions (R267). -/
  fourWire : s.cfg.topology = 0 → s.out.dspOe = (s.ser.state != .idle)
  bank : s.bank.lastFrameValid = true → BankInv p s.bank

/-- What holds at a boundary of a block that is not Running: it has not ticked since reset (R273, R331). -/
structure StoppedInv (s : State) : Prop where
  out : s.out = State.reset.out
  now : s.now = 0
  dec : s.dec = State.reset.dec
  bank : s.bank = State.reset.bank
  ser : s.ser = State.reset.ser
  slots : ∀ b, (s.slots.get b).state = .empty

/-- The invariant of every tick boundary. -/
structure Inv (s : State) : Prop where
  /-- DEC_STATE is Idle or Accumulating (R31). -/
  settled : s.dec.state.settled = true
  /-- No per-tick signal crosses the boundary (R47). -/
  signals : s.sig = TickSignals.none
  /-- ERR_CAUSE is one of its three codes (R34). -/
  cause : s.dec.errCause ≠ 3
  /-- AUDIO_MUTE is held at 0 (R292). -/
  mute : s.out.audioMute = false
  /-- The two validity bits of the bank are set together (R151). -/
  validity : s.bank.lastUpdateValid = s.bank.lastFrameValid
  running : ∀ p, s.run = .running p → RunningInv p s
  stopped : s.run.isRunning = false → StoppedInv s

/-- `P` agrees with CFG_TOPOLOGY and CFG_MODEL (R283). -/
def ProfileAgrees (s : State) : Prop :=
  ∀ p, s.run = .running p → lookupProfile s.cfg.topology s.cfg.model = some p

end Sys2Proof.Machine
end

