-- ==== Sys2Proof/Certificates/Slice0/Obligations.lean ====
section
/-! DEFINITION. The statements for the provers, grouped as the spec's files are. Each docstring names the rule it formalises.

Where a statement says that nothing else of the state changes, that includes the model's own fields; that the port's last answer
(`port.rdata`) stands over everything but a read and a reset is the model's choice (log 3). -/

open Sys2Proof Sys2Proof.Machine

/-! ### Encodings (`30_encoding.md`) -/

/-- Decoding the encoding of any well-formed operation gives it back, with every operand (R91, R93, R98). -/
def Obligations.DecodeOfEncodeIsIdentity : Prop :=
  ∀ i : Instr, i.wf = true → decode (encode i) = i

/-- Every operation word of the three classes decodes to a well-formed operation whose encoding is that very word. -/
def Obligations.EncodeOfDecodeIsIdentity : Prop :=
  ∀ op : OpWord, encode (decode op) = op ∧ (decode op).wf = true

/-- A few words written out from the spec's encodings decode to the operations they stand for (R92, R94, R95, R98; the T values
of `95_test_vectors.md`). -/
def Obligations.WrittenOutWordsDecode : Prop :=
  decodeTableWord 48 0x00000010302 = some (.wrCfg 0x00010302)
    ∧ decodeTableWord 48 0x00400000001 = some (.wrCtrlStart 0x00000001)
    ∧ decodeTableWord 48 0x018_00000009 = some .pressDown
    ∧ decodeTableWord 48 0x018_00000018 = some .holdUp
    ∧ decodeTableWord 48 0x018_00000028 = some .releaseUp
    ∧ decodeTableWord 48 0x018_80000000 = some (.wrCmdIllegalBit31 0x80000000)
    ∧ decodeTableWord 16 0x0D4 = some .rdSnapFieldHi10
    ∧ decodeTableWord 8 0b10111 = some (.bit true)

/-- The event word of two samples decodes to the event of R125's tests, with its free bits as operands. -/
def Obligations.EventWordClassification : Prop :=
  ∀ (p : Profile) (prev cur : Sample),
    let aPrev : Bool := prev.cs == p.csActiveLevel
    let aCur : Bool := cur.cs == p.csActiveLevel
    let k : Bool := match p.clockEdgePolarity with | .rising => true | .falling => false
    let kPrev : Bool := prev.clk == k
    let kCur : Bool := cur.clk == k
    let e := decode (.busEvent (eventWord p prev cur))
    (aPrev = false → aCur = true → e = .csAssert kPrev kCur cur.dat)
      ∧ (aPrev = true → aCur = false → e = .csDeassert kPrev kCur cur.dat)
      ∧ (aPrev = false → aCur = false → e = .idleLine kPrev kCur cur.dat)
      ∧ (aPrev = true → aCur = true → kPrev = false → kCur = true → e = .bit cur.dat)
      ∧ (aPrev = true → aCur = true → kPrev = false → kCur = false → e = .heldInactive cur.dat)
      ∧ (aPrev = true → aCur = true → kPrev = true → kCur = false → e = .heldReturn cur.dat)
      ∧ (aPrev = true → aCur = true → kPrev = true → kCur = true → e = .heldActive cur.dat)

/-! ### The step, the port and reset (`20_memory.md`, `45_bus_mux_arbitration.md`, `70_reset_and_hazards.md`) -/

/-- A host transaction of four bytes runs its decoded operation between ticks (R76). -/
def Obligations.StepRunsHostTransaction : Prop :=
  ∀ (s : State) (rest : List Input), s.env.rst = false →
    (∀ t, s.env.pending = .write 4 t :: rest →
        step s = exec (decode (.hostWrite t)) { s with env := { s.env with pending := rest } })
      ∧ (∀ off, s.env.pending = .read 4 off :: rest →
        step s = exec (decode (.hostRead off)) { s with env := { s.env with pending := rest } })

/-- In an unmasked Running tick with a previous sample, the operation of the sampler's event word runs between the sampler and
the later phases (R250, R252); in a masked or a history-load tick no operation runs (R121, R122). The later phases are R250's,
in its order: idle line, forwarding, gate, expiry, drain, timeout (told the button that the drain chose), hibernate prevention,
the serializer's advance (skipped for a transmission started in this tick, R232), outputs, end of tick. -/
def Obligations.StepRunsBusEvent : Prop :=
  ∀ (s : State) (p : Profile) (x : Sample) (rest : List Input), TickDue p x rest s →
    let masked : Prop := s.cfg.topology = 0 ∧ s.out.dspOe = true
    let s1 := tickHead p x { s with env := { s.env with pending := rest } }
    let later : State → State := fun u =>
      let v := expire p (gate (forward p (detectIdle p x u)))
      endTick (updateOutputs p (advance p (hibernate p (timeout p (injectionSlot v) (drain p v)))))
    (¬masked → s.smp.prevValid = true →
        step s = thenNext (exec (decode (.busEvent (eventWord p s.smp.prev x))) s1) later)
      ∧ (masked ∨ s.smp.prevValid = false → step s = .next (later s1))
      ∧ s1.dec = s.dec ∧ s1.run = s.run ∧ s1.now = s.now ∧ s1.bank = s.bank ∧ (s1.sig.masked = true ↔ masked)
      ∧ ∀ u : State,
        ((detectIdle p x u).sig.idleLine = true ↔
            (u.sig.masked = false ∧ x.cs ≠ p.csActiveLevel ∧ p.idleGap ≤ u.smp.quietCnt.toNat))
          ∧ (u.sig.serNew = true → (advance p u).ser = u.ser)
          ∧ (u.sig.serNew = false → (advance p u).ser = serAdvance p u.ser)

/-- A transaction of another width than four bytes, or at an offset that is not a multiple of 4, is refused, with RST asserted as
with RST released (R72), and the four misaligned rows, to one of which every misaligned offset decodes, refuse in every state. -/
def Obligations.TransactionsOutsideTheContractAreRefused : Prop :=
  (∀ (s : State) (n : Nat) (off : Offset) (w : Word) (rest : List Input), (n ≠ 4 ∨ off.extractLsb' 0 2 ≠ 0) →
      (s.env.pending = .write n (off ++ w) :: rest → ∃ r, step s = .refused r)
        ∧ (s.env.pending = .read n off :: rest → ∃ r, step s = .refused r))
    ∧ (∀ (s : State) (off : Offset) (w : Word), ∀ i ∈ misalignedRows off w,
        exec i s = .refused (.misalignedTransaction off))
    ∧ ∀ (off : Offset) (w : Word), off.extractLsb' 0 2 ≠ 0 →
        decode (.hostWrite (off ++ w)) ∈ misalignedRows off w ∧ decode (.hostRead off) ∈ misalignedRows off w

/-- Every clock edge of a Running block at a tick boundary completes, no error of the tick stops it (R154, R269, R306), and it
touches no register that only the host writes, nor the snapshot; in a masked or history-load tick the decoder and the live bank
are untouched (R141). The clause `t.port = s.port`, that the last read's answer stands over a tick, is the model's choice (log
3). -/
def Obligations.RunningTickCompletes : Prop :=
  ∀ (s : State) (p : Profile) (x : Sample) (rest : List Input), TickDue p x rest s →
    ∃ t, step s = .next t ∧ t.run = .running p ∧ t.dec.state.settled = true ∧ t.sig = TickSignals.none
      ∧ t.env = { s.env with pending := rest } ∧ t.cfg = s.cfg ∧ t.btnEnable = s.btnEnable ∧ t.badCmd = s.badCmd
      ∧ t.snap = s.snap ∧ t.port = s.port
      ∧ ((s.cfg.topology = 0 ∧ s.out.dspOe = true) ∨ s.smp.prevValid = false → t.dec = s.dec ∧ t.bank = s.bank)

/-- While the host keeps the port's contract, no step from a state with the invariant stops (R72, R306). -/
def Obligations.NothingStopsAContractKeepingHost : Prop :=
  ∀ s : State, Inv s → hostKeepsContract s = true → completes (step s) = true

/-- After reset every register of the window, listed or reserved, reads 0 (R60, R74, R330). -/
def Obligations.EveryRegisterReadsZeroAfterReset : Prop :=
  ∀ off : Offset, off.extractLsb' 0 2 = 0 → Answers (decode (.hostRead off)) State.reset 0

/-- A clock edge with RST asserted resets every state element, in every state; while RST is asserted a host transaction of
the port's contract has no effect (R330, R332; the others are refused, R72). That the port's old answer stands after a read under reset, and that reset clears it, is the model's choice
(log 8). -/
def Obligations.ResetTakenAtClockEdge : Prop :=
  ∀ (s : State) (rest : List Input), s.env.rst = true →
    (∀ x, s.env.pending = .clock x :: rest →
        step s = .next { State.reset with env := { s.env with pending := rest } })
      ∧ (∀ (off : Offset) (w : Word), off.extractLsb' 0 2 = 0 → s.env.pending = .write 4 (off ++ w) :: rest →
        step s = .next { s with env := { s.env with pending := rest } })
      ∧ (∀ off : Offset, off.extractLsb' 0 2 = 0 → s.env.pending = .read 4 off :: rest →
        step s = .next { s with env := { s.env with pending := rest } })

/-- A clock edge outside Running does nothing (R273). -/
def Obligations.StoppedTickDoesNothing : Prop :=
  ∀ (s : State) (x : Sample) (rest : List Input), s.run.isRunning = false → s.env.rst = false →
    s.env.pending = .clock x :: rest → step s = .next { s with env := { s.env with pending := rest } }

/-! ### Configuration and control (`46_configuration_control.md`) -/

/-- WR CFG, the write at 0x000, stores its three fields in Config and is ignored otherwise (R280). -/
def Obligations.CfgWriteOnlyInConfig : Prop :=
  ∀ (s : State) (w : Word), decode (.hostWrite (0x000#12 ++ w)) = .wrCfg w
    ∧ (s.run = .config → exec (.wrCfg w) s =
        .next { s with cfg := { topology := w.extractLsb' 0 2, model := w.extractLsb' 8 8, hibEn := w.getLsbD 16 } })
      ∧ (s.run ≠ .config → exec (.wrCfg w) s = .next s)

/-- START in Config latches the pair's well-formed profile and runs, or goes to ConfigError, and touches nothing else (R282, R283,
R284); no pair of the reserved topology code 3 has a profile (R281). -/
def Obligations.StartLatchesOrFails : Prop :=
  (∀ (s : State) (w : Word), w.getLsbD 0 = true → s.run = .config →
    exec (.wrCtrlStart w) s =
      .next { s with
        run :=
          match lookupProfile s.cfg.topology s.cfg.model with
          | some p => if p.wf then .running p else .configError
          | none => .configError })
    ∧ ∀ m, lookupProfile 3 m = none

/-- START outside Config, and WR CTRL without START, change nothing (R282, R285). -/
def Obligations.StartElsewhereIgnored : Prop :=
  ∀ (s : State) (w : Word),
    (w.getLsbD 0 = true → s.run ≠ .config → exec (.wrCtrlStart w) s = .next s)
      ∧ (w.getLsbD 0 = false → exec (.wrCtrlNoStart w) s = .next s)

/-- The checks of START are those of R111. -/
def Obligations.WellFormedProfileIsRuleR111 : Prop :=
  ∀ p : Profile, p.wf = true ↔
    (1 ≤ p.frameBitCount ∧ p.frameBitCount ≤ 256)
      ∧ (∀ f o w, p.fieldOffsets.get f = some (o, w) →
          1 ≤ w ∧ w ≤ 64 ∧ o + w ≤ p.frameBitCount ∧ (2 ≤ f.code → f.code ≤ 8 → w = 1))
      ∧ (∀ b c, p.buttonCode.get b = some c → 1 ≤ c.length ∧ c.length ≤ 64)
      ∧ (1 ≤ p.keepaliveCode.length ∧ p.keepaliveCode.length ≤ 64)
      ∧ ∀ n ∈ [p.tLead, p.tHalf, p.tLag, p.idleGap, p.deliveryTimeout, p.maxHold, p.hibernateTimeout],
          1 ≤ n ∧ n ≤ 2 ^ 32 - 1

/-- WR BTN_ENABLE, the write at 0x014, stores bits [9:0] in every RUN_STATE and changes nothing else (R286). -/
def Obligations.BtnEnableWriteStoresTenBits : Prop :=
  ∀ (s : State) (w : Word), decode (.hostWrite (0x014#12 ++ w)) = .wrBtnEnable w
    ∧ ∃ m : ButtonMask, exec (.wrBtnEnable w) s = .next { s with btnEnable := m } ∧ ∀ i < 10, m.getLsbD i = w.getLsbD i

/-- WR STATUS, the write at 0x008, clears BAD_CMD exactly where bit 4 is 1, and changes nothing else (R287). -/
def Obligations.StatusWriteClearsBadCmd : Prop :=
  ∀ (s : State) (w : Word), decode (.hostWrite (0x008#12 ++ w)) = .wrStatus w
    ∧ exec (.wrStatus w) s = .next { s with badCmd := s.badCmd && !w.getLsbD 4 }

/-- WR DELIVERED and WR FAILED, the writes at 0x024 and 0x028, clear exactly the bits of their masks (R288, R289). -/
def Obligations.ResultWritesClearTheirMasks : Prop :=
  ∀ (s : State) (w : Word), decode (.hostWrite (0x024#12 ++ w)) = .wrDelivered w
    ∧ decode (.hostWrite (0x028#12 ++ w)) = .wrFailed w
    ∧ (∃ m : ButtonMask, exec (.wrDelivered w) s = .next { s with delivered := m }
        ∧ ∀ i < 10, m.getLsbD i = (s.delivered.getLsbD i && !w.getLsbD i))
    ∧ ∃ m : ButtonMask, exec (.wrFailed w) s = .next { s with failed := m }
        ∧ ∀ i < 10, m.getLsbD i = (s.failed.getLsbD i && !w.getLsbD i)

/-- Writes to read-only registers and to reserved offsets change nothing, and every write at an aligned offset from 0x030 on is
one of those rows (R74). -/
def Obligations.IgnoredWritesChangeNothing : Prop :=
  (∀ (s : State) (w : Word), ∀ i ∈ readOnlyWriteRows w, exec i s = .next s)
    ∧ (∀ (s : State) (off : Offset) (w : Word), ∀ i ∈ reservedWriteRows off w, exec i s = .next s)
    ∧ ∀ (off : Offset) (w : Word), off.extractLsb' 0 2 = 0 → 0x030 ≤ off.toNat →
        decode (.hostWrite (off ++ w)) ∈ readOnlyWriteRows w ∨ decode (.hostWrite (off ++ w)) ∈ reservedWriteRows off w

/-! ### Snapshot and host reads (`42_field_bank_and_reads.md`) -/

/-- WR SNAP, the write at 0x02C, copies the live bank and NOW into the snapshot bank, whatever the data and in every RUN_STATE, and changes nothing
else (R174). -/
def Obligations.SnapCopiesTheLiveBank : Prop :=
  ∀ (s : State) (w : Word), decode (.hostWrite (0x02C#12 ++ w)) = .wrSnap w
    ∧ ∃ k : SnapshotBank, exec (.wrSnap w) s = .next { s with snap := k }
    ∧ (∀ f, k.known.get f = s.bank.known.get f ∧ k.raw.get f = s.bank.raw.get f)
    ∧ k.lastUpdate = s.bank.lastUpdate ∧ k.lastUpdateValid = s.bank.lastUpdateValid
    ∧ k.lastFrameValid = s.bank.lastFrameValid ∧ k.now = s.now

/-- RD CFG, the read at 0x000 (R177). -/
def Obligations.CfgReadGivesItsFields : Prop :=
  ∀ s : State, decode (.hostRead 0x000) = .rdCfg ∧ ∃ v : Word, Answers .rdCfg s v ∧ v.extractLsb' 0 2 = s.cfg.topology ∧ v.extractLsb' 2 6 = 0
    ∧ v.extractLsb' 8 8 = s.cfg.model ∧ v.getLsbD 16 = s.cfg.hibEn ∧ v.extractLsb' 17 15 = 0

/-- RD STATUS, the read at 0x008 (R61, R178): each bit from live state, every other bit 0. -/
def Obligations.StatusReadGivesLiveBits : Prop :=
  ∀ s : State, decode (.hostRead 0x008) = .rdStatus ∧ ∃ v : Word, Answers .rdStatus s v
    ∧ (v.getLsbD 0 = true ↔ ∃ p, s.run = .running p) ∧ (v.getLsbD 1 = true ↔ s.run = .configError)
    ∧ (v.getLsbD 2 = true ↔ s.ser.state ≠ .idle) ∧ v.getLsbD 3 = s.smp.busIdle ∧ v.getLsbD 4 = s.badCmd
    ∧ v.getLsbD 5 = s.rePending ∧ v.extractLsb' 6 2 = 0
    ∧ v.extractLsb' 8 2 =
        (match s.dec.state with | .idle => 0 | .accumulating => 1 | .complete => 2 | .invalid => 3)
    ∧ v.extractLsb' 10 22 = 0

/-- RD INVALID_COUNT, RD ERR_CAUSE, RD BTN_ENABLE, RD DELIVERED and RD FAILED give their registers, zero-extended (R179, R180,
R181, R184, R185). -/
def Obligations.RecordReadsZeroExtend : Prop :=
  ∀ s : State,
    Answers .rdInvalidCount s s.dec.invalidCount ∧ Answers .rdErrCause s (s.dec.errCause.setWidth 32)
      ∧ Answers .rdBtnEnable s (s.btnEnable.setWidth 32) ∧ Answers .rdDelivered s (s.delivered.setWidth 32)
      ∧ Answers .rdFailed s (s.failed.setWidth 32)
      ∧ decode (.hostRead 0x00C) = .rdInvalidCount ∧ decode (.hostRead 0x010) = .rdErrCause
      ∧ decode (.hostRead 0x014) = .rdBtnEnable ∧ decode (.hostRead 0x024) = .rdDelivered
      ∧ decode (.hostRead 0x028) = .rdFailed

/-- RD SLOT_PENDING and RD SLOT_HOLDING, the reads at 0x01C and 0x020: bit b from the slot of b, bits [31:10] 0 (R182, R183). -/
def Obligations.SlotReadsGiveOneBitPerButton : Prop :=
  ∀ s : State, decode (.hostRead 0x01C) = .rdSlotPending ∧ decode (.hostRead 0x020) = .rdSlotHolding
    ∧ (∃ v : Word, Answers .rdSlotPending s v ∧ v.extractLsb' 10 22 = 0
        ∧ ∀ b : ButtonId, v.getLsbD b.code = true ↔
            ((s.slots.get b).state = .pendingPress ∨ (s.slots.get b).state = .pendingHold))
    ∧ ∃ v : Word, Answers .rdSlotHolding s v ∧ v.extractLsb' 10 22 = 0
        ∧ ∀ b : ButtonId, v.getLsbD b.code = true ↔ (s.slots.get b).state = .holding

/-- The timestamp reads give the low and the high half of SNAP_NOW and of SNAP_LAST_UPDATE (R73, R186, R187). -/
def Obligations.SnapshotTimeReadsAreHalves : Prop :=
  ∀ s : State, ∃ nl nh ul uh : Word, Answers .rdSnapNowLo s nl ∧ Answers .rdSnapNowHi s nh ∧ nh ++ nl = s.snap.now
    ∧ Answers .rdSnapLastUpdateLo s ul ∧ Answers .rdSnapLastUpdateHi s uh ∧ uh ++ ul = s.snap.lastUpdate
    ∧ decode (.hostRead 0x030) = .rdSnapNowLo ∧ decode (.hostRead 0x034) = .rdSnapNowHi
    ∧ decode (.hostRead 0x038) = .rdSnapLastUpdateLo ∧ decode (.hostRead 0x03C) = .rdSnapLastUpdateHi

/-- RD SNAP_VALID, the read at 0x040 (R188). -/
def Obligations.SnapValidReadGivesItsBits : Prop :=
  ∀ s : State, decode (.hostRead 0x040) = .rdSnapValid ∧ ∃ v : Word, Answers .rdSnapValid s v ∧ (∀ f : FieldId, v.getLsbD f.code = s.snap.known.get f)
    ∧ v.getLsbD 16 = s.snap.lastUpdateValid ∧ v.getLsbD 17 = s.snap.lastFrameValid
    ∧ v.extractLsb' 11 5 = 0 ∧ v.extractLsb' 18 14 = 0

/-- The 22 SNAP_FIELD reads give the halves of SNAP_RAW[f], at the offsets 0x080 + 8f and 0x084 + 8f (R175). -/
def Obligations.SnapFieldReadsAreHalves : Prop :=
  ∀ (s : State) (f : FieldId), ∃ lo hi : Word, Answers (snapFieldLoInstr f) s lo ∧ Answers (snapFieldHiInstr f) s hi
    ∧ hi ++ lo = s.snap.raw.get f
    ∧ decode (.hostRead (BitVec.ofNat 12 (0x080 + 8 * f.code))) = snapFieldLoInstr f
    ∧ decode (.hostRead (BitVec.ofNat 12 (0x084 + 8 * f.code))) = snapFieldHiInstr f

/-- Reads of the write-only registers, at 0x004, 0x018 and 0x02C, and of reserved offsets give 0 and change nothing else (R74,
R189). -/
def Obligations.WriteOnlyAndReservedReadZero : Prop :=
  (∀ (s : State) (off : Offset), ∀ i ∈ zeroReadRows off, Answers i s 0)
    ∧ decode (.hostRead 0x004) = .rdCtrl ∧ decode (.hostRead 0x018) = .rdCmd ∧ decode (.hostRead 0x02C) = .rdSnap

/-- No aligned read has a side effect: it is answered and nothing else changes, in every state (R75). -/
def Obligations.ReadsHaveNoSideEffect : Prop :=
  ∀ (s : State) (off : Offset), off.extractLsb' 0 2 = 0 → ∃ v : Word, Answers (decode (.hostRead off)) s v

/-! ### The command injector (`43_command_injector.md`) -/

/-- A write to CMD, by its word: illegal words, Release, refused and accepted Press and Hold (R192, R93). -/
def Obligations.CommandWriteFollowsItsWord : Prop :=
  ∀ (s : State) (w : Word),
    let act := (w.extractLsb' 4 2).toNat
    let o := exec (decode (.hostWrite (0x018#12 ++ w))) s
    ((w.extractLsb' 6 26 ≠ 0 ∨ 9 < (w.extractLsb' 0 4).toNat ∨ act = 3) → o = .next { s with badCmd := true })
      ∧ ∀ b : ButtonId, w.extractLsb' 6 26 = 0 → (w.extractLsb' 0 4).toNat = b.code →
        (act = 2 → o = .next { s with slots := s.slots.set b { s.slots.get b with state := .empty } })
          ∧ (act < 2 → CannotCommand b s → o = .next { s with failed := s.failed ||| BitVec.twoPow 10 b.code })
          ∧ (act < 2 → ∀ p, CanCommand p b s → o =
              .next { s with
                slots := s.slots.set b
                  { s.slots.get b with state := if act = 0 then .pendingPress else .pendingHold, enqTime := s.now } })

/-- The rows PRESS b, HOLD b and RELEASE b of every button complete, with the effect of R193, R194 and R195. -/
def Obligations.PressHoldReleaseEffects : Prop :=
  ∀ (s : State) (b : ButtonId),
    exec (releaseInstr b) s = .next { s with slots := s.slots.set b { s.slots.get b with state := .empty } }
      ∧ (CannotCommand b s →
          exec (pressInstr b) s = .next { s with failed := s.failed ||| BitVec.twoPow 10 b.code }
            ∧ exec (holdInstr b) s = .next { s with failed := s.failed ||| BitVec.twoPow 10 b.code })
      ∧ ∀ p, CanCommand p b s →
          exec (pressInstr b) s =
              .next { s with
                slots := s.slots.set b { s.slots.get b with state := .pendingPress, enqTime := s.now } }
            ∧ exec (holdInstr b) s =
              .next { s with
                slots := s.slots.set b { s.slots.get b with state := .pendingHold, enqTime := s.now } }

/-- The rows of illegal command words set BAD_CMD and change nothing else (R192 step 1, R305). -/
def Obligations.IllegalCommandSetsBadCmd : Prop :=
  ∀ (s : State) (button : BitVec 4) (action : BitVec 2) (low1 : BitVec 1) (low2 : BitVec 2) (w : Word),
    ∀ i ∈ illegalCommandRows button action low1 low2 w, exec i s = .next { s with badCmd := true }

/-- Any number of accepted PRESS b directly one after the other leaves what one PRESS b leaves: R208, an inference that the spec
marks as its own ("derived: from rule R192"), for a sequence with no other host transaction between the presses. -/
def Obligations.RepeatedPressIsOnePress : Prop :=
  ∀ (s : State) (b : ButtonId) (p : Profile) (k : Nat), CanCommand p b s →
    execAll (List.replicate (k + 1) (pressInstr b)) s = exec (pressInstr b) s

/-- Phase 3a (R196): a disabled button's slot is emptied, its pending command fails; an enabled button's slot and result are
untouched; nothing else changes. -/
def Obligations.GateDropsDisabledCommands : Prop :=
  ∀ s : State, gate s = { s with slots := (gate s).slots, failed := (gate s).failed }
    ∧ ∀ b : ButtonId,
      (s.btnEnable.getLsbD b.code = true →
          (gate s).slots.get b = s.slots.get b ∧ (gate s).failed.getLsbD b.code = s.failed.getLsbD b.code)
        ∧ (s.btnEnable.getLsbD b.code = false →
          (gate s).slots.get b = { s.slots.get b with state := .empty }
            ∧ ((gate s).failed.getLsbD b.code = true ↔
                (s.failed.getLsbD b.code = true ∨ (s.slots.get b).state = .pendingPress
                  ∨ (s.slots.get b).state = .pendingHold)))

/-- Phase 3b (R197): a hold ends when NOW - HOLD_START reaches `max_hold`; nothing else changes. -/
def Obligations.HoldExpiresAtItsMaximum : Prop :=
  ∀ (p : Profile) (s : State), expire p s = { s with slots := (expire p s).slots }
    ∧ ∀ b : ButtonId,
      ((s.slots.get b).state = .holding ∧ p.maxHold ≤ (s.now - (s.slots.get b).holdStart).toNat →
          (expire p s).slots.get b = { s.slots.get b with state := .empty })
        ∧ (¬((s.slots.get b).state = .holding ∧ p.maxHold ≤ (s.now - (s.slots.get b).holdStart).toNat) →
          (expire p s).slots.get b = s.slots.get b)

/-- Phase 3c (R198, R199): with no grant only CMD_STARTED is cleared; in an idle window the least eligible button is chosen, its
code is loaded, its slot moves on, and a pending command is delivered. -/
def Obligations.DrainServesTheLeastEligible : Prop :=
  ∀ (p : Profile) (s : State),
    let el : ButtonId → Prop := fun b =>
      (s.slots.get b).state = .pendingPress ∨ (s.slots.get b).state = .pendingHold
        ∨ ((s.slots.get b).state = .holding ∧ (s.slots.get b).emitted = false)
    ((s.sig.idleLine = false ∨ s.ser.state ≠ .idle ∨ ∀ b, ¬el b) →
        injectionSlot s = none ∧ drain p s = { s with sig := { s.sig with cmdStarted := false } })
      ∧ ∀ b code, s.sig.idleLine = true → s.ser.state = .idle → el b → (∀ c, el c → b.code ≤ c.code) →
        p.buttonCode.get b = some code → code.length ≤ 64 →
        injectionSlot s = some b ∧ ∃ buf : FrameBits, (∀ i, buf.getLsbD i = code.getD i false)
          ∧ drain p s =
            { s with
              slots := s.slots.set b
                (match (s.slots.get b).state with
                  | .pendingPress => { s.slots.get b with state := .empty }
                  | .pendingHold => { s.slots.get b with state := .holding, holdStart := s.now, emitted := true }
                  | .holding | .empty => { s.slots.get b with emitted := true })
              delivered :=
                if (s.slots.get b).state = .holding then s.delivered else s.delivered ||| BitVec.twoPow 10 b.code
              ser :=
                { state := .lead, timer := BitVec.ofNat 32 p.tLead, idx := 0, len := BitVec.ofNat 9 code.length,
                  buf := buf, src := .cmd }
              sig := { s.sig with serNew := true, cmdStarted := true } }

/-- Phase 3d (R200): a pending command that was not chosen fails when NOW - ENQ_TIME reaches `delivery_timeout - 1`; nothing else
changes. -/
def Obligations.DeliveryTimesOut : Prop :=
  ∀ (p : Profile) (chosen : Option ButtonId) (s : State),
    timeout p chosen s = { s with slots := (timeout p chosen s).slots, failed := (timeout p chosen s).failed }
      ∧ ∀ b : ButtonId,
        let late : Prop :=
          chosen ≠ some b ∧ ((s.slots.get b).state = .pendingPress ∨ (s.slots.get b).state = .pendingHold)
            ∧ p.deliveryTimeout - 1 ≤ (s.now - (s.slots.get b).enqTime).toNat
        (late → (timeout p chosen s).slots.get b = { s.slots.get b with state := .empty }
            ∧ (timeout p chosen s).failed.getLsbD b.code = true)
          ∧ (¬late → (timeout p chosen s).slots.get b = s.slots.get b
            ∧ (timeout p chosen s).failed.getLsbD b.code = s.failed.getLsbD b.code)

/-! ### The sampler (`40_bit_sampler.md`) -/

/-- A Running tick's sampler state: a masked tick discards its sample (R121), a history-load tick loads it (R122), any other keeps
it as the previous one (R128); QUIET_CNT is 0 after activity and counts, saturating, otherwise (R126, R127); BUS_IDLE is
IDLE_LINE (R255, R259). Activity clears every slot's EMITTED, any other tick leaves it (R42, R127), and neither the event's
operation nor phase 2 touches the slots before the injector sees them. -/
def Obligations.SamplerStateAfterATick : Prop :=
  ∀ (s : State) (p : Profile) (x : Sample) (rest : List Input), TickDue p x rest s →
    let masked : Prop := s.cfg.topology = 0 ∧ s.out.dspOe = true
    let quieter : BitVec 32 := if s.smp.quietCnt = 0xFFFFFFFF then 0xFFFFFFFF else s.smp.quietCnt + 1
    let active : Prop := ¬masked ∧ s.smp.prevValid = true ∧ s.smp.prev ≠ x
    let s1 := tickHead p x { s with env := { s.env with pending := rest } }
    (∃ t, step s = .next t
      ∧ (masked → t.smp = { prevValid := false, prev := s.smp.prev, quietCnt := quieter, busIdle := false })
      ∧ (¬masked → t.smp.prev = x ∧ t.smp.prevValid = true
          ∧ (s.smp.prevValid = true → s.smp.prev ≠ x → t.smp.quietCnt = 0)
          ∧ (s.smp.prevValid = false ∨ s.smp.prev = x → t.smp.quietCnt = quieter)
          ∧ (t.smp.busIdle = true ↔ (x.cs ≠ p.csActiveLevel ∧ p.idleGap ≤ t.smp.quietCnt.toNat))))
      ∧ (∀ b, (active → s1.slots.get b = { s.slots.get b with emitted := false })
          ∧ (¬active → s1.slots.get b = s.slots.get b))
      ∧ (∀ e s2, exec (decode (.busEvent e)) s1 = .next s2 → s2.slots = s1.slots)
      ∧ ∀ u : State, (forward p (detectIdle p x u)).slots = u.slots

/-! ### The frame decoder (`41_frame_decoder.md`) -/

/-- CS_ASSERT starts a frame: in Idle by R142; in Accumulating by R145, an inference that the spec marks as its own ("for
totality"). -/
def Obligations.ChipSelectAssertStartsAFrame : Prop :=
  ∀ (s : State) (p : Profile) (kPrev kCur d : Bool), s.run = .running p → s.dec.state.settled = true →
    exec (.csAssert kPrev kCur d) s = .next { s with dec := { s.dec with bitCnt := 0, state := .accumulating } }

/-- In Idle the decoder ignores every event but an assertion (R143; that this holds of a block that is not Running too, where no
event is formed, is the model's reading, log 16); while Accumulating the HELD events and IDLE_LINE change nothing, and an
assertion restarts the frame (R145, an inference that the spec marks as its own). -/
def Obligations.DecoderIgnoresTheOtherEvents : Prop :=
  (∀ (s : State) (kPrev kCur d : Bool), s.dec.state = .idle →
      exec (.bit d) s = .next s ∧ exec (.csDeassert kPrev kCur d) s = .next s
        ∧ ∀ i ∈ idleAndHeldRows kPrev kCur d, exec i s = .next s)
    ∧ ∀ (s : State) (p : Profile) (kPrev kCur d : Bool), s.run = .running p → s.dec.state = .accumulating →
        (∀ i ∈ idleAndHeldRows kPrev kCur d, exec i s = .next s)
          ∧ exec (.csAssert kPrev kCur d) s = .next { s with dec := { s.dec with bitCnt := 0, state := .accumulating } }

/-- A bit that is not the last is stored at its arrival index, and nothing else changes (R144). -/
def Obligations.BitIsStoredAtItsArrivalIndex : Prop :=
  ∀ (s : State) (p : Profile) (d : Bool), s.run = .running p → p.wf = true → s.dec.state = .accumulating →
    s.dec.bitCnt.toNat + 1 < p.frameBitCount →
    ∃ raw : FrameBits, exec (.bit d) s = .next { s with dec := { s.dec with raw := raw, bitCnt := s.dec.bitCnt + 1 } }
      ∧ raw.getLsbD s.dec.bitCnt.toNat = d ∧ ∀ i, i ≠ s.dec.bitCnt.toNat → raw.getLsbD i = s.dec.raw.getLsbD i

/-- The last bit of a frame that passes its checksum (any frame, where the profile has no rule) applies the frame (R144, R146,
R149, R151): every mapped field gets its assembled bits and is known exactly where `decode` recognises them, unmapped fields
keep theirs, and the frame and the time are recorded. The boolean fields, FieldIds 2 to 8, are always recognised, with the
value of raw = 1 (R152). -/
def Obligations.LastBitAppliesAGoodFrame : Prop :=
  ∀ (s : State) (p : Profile) (d : Bool) (v : FrameBits), s.run = .running p → p.wf = true →
    s.dec.state = .accumulating → s.dec.bitCnt.toNat + 1 = p.frameBitCount →
    (∀ i, v.getLsbD i =
      (decide (i < p.frameBitCount) && if i = s.dec.bitCnt.toNat then d else s.dec.raw.getLsbD i)) →
    (∀ ck, p.checksumRule = some ck → ck.eval (fun i => v.getLsbD i) = true) →
    ∃ (raw : FrameBits) (k : FieldBank),
      exec (.bit d) s =
          .next { s with
            dec := { s.dec with raw := raw, bitCnt := s.dec.bitCnt + 1, state := .idle }
            bank := k
            sig := { s.sig with frameEnd := true } }
        ∧ (∀ i, raw.getLsbD i = if i = s.dec.bitCnt.toNat then d else s.dec.raw.getLsbD i)
        ∧ k.lastFrame = v ∧ k.lastFrameValid = true ∧ k.lastUpdate = s.now ∧ k.lastUpdateValid = true
        ∧ (∀ f o w, p.fieldOffsets.get f = some (o, w) →
            k.raw.get f = assemble v o w p.bitOrder ∧ k.known.get f = (p.decode f (assemble v o w p.bitOrder)).isSome)
        ∧ (∀ f, p.fieldOffsets.get f = none → k.raw.get f = s.bank.raw.get f ∧ k.known.get f = s.bank.known.get f)
        ∧ ∀ f (r : Word64), 2 ≤ f.code → f.code ≤ 8 → p.decode f r = some (.flag (decide (r = 1)))

/-- The last bit of a frame that fails its profile's checksum rule drops the frame: the error is recorded, the bit is in RAW, the
field bank is as before (R144, R149, R302). -/
def Obligations.LastBitDropsABadFrame : Prop :=
  ∀ (s : State) (p : Profile) (d : Bool) (v : FrameBits) (ck : BitFormula), s.run = .running p → p.wf = true →
    s.dec.state = .accumulating → s.dec.bitCnt.toNat + 1 = p.frameBitCount →
    (∀ i, v.getLsbD i =
      (decide (i < p.frameBitCount) && if i = s.dec.bitCnt.toNat then d else s.dec.raw.getLsbD i)) →
    p.checksumRule = some ck → ck.eval (fun i => v.getLsbD i) = false →
    ∃ raw : FrameBits, (∀ i, raw.getLsbD i = if i = s.dec.bitCnt.toNat then d else s.dec.raw.getLsbD i) ∧
      exec (.bit d) s =
        .next { s with
          dec :=
            { s.dec with
              raw := raw, bitCnt := s.dec.bitCnt + 1, state := .idle, invalidCount := s.dec.invalidCount + 1, errCause := 2 }
          sig := { s.sig with frameEnd := true } }

/-- A deassertion before the last bit is a framing error: it is recorded, the partial frame is discarded (R147, R301). -/
def Obligations.EarlyDeassertIsAFramingError : Prop :=
  ∀ (s : State) (p : Profile) (kPrev kCur d : Bool), s.run = .running p → s.dec.state = .accumulating →
    exec (.csDeassert kPrev kCur d) s =
      .next { s with
        dec := { s.dec with state := .idle, invalidCount := s.dec.invalidCount + 1, errCause := 1 }
        sig := { s.sig with frameEnd := true } }

/-- A pattern `r` placed in a field's slice in the profile's bit order is what `assemble` gives back (R150, R153). -/
def Obligations.AssembleRecoversThePattern : Prop :=
  ∀ (v : FrameBits) (o w r : Nat), w ≤ 64 → r < 2 ^ w →
    ((∀ j < w, v.getLsbD (o + j) = r.testBit (w - 1 - j)) → assemble v o w .msbFirst = BitVec.ofNat 64 r)
      ∧ ((∀ j < w, v.getLsbD (o + j) = r.testBit j) → assemble v o w .lsbFirst = BitVec.ofNat 64 r)

/-! ### The serializer (`44_bit_serializer.md`) -/

/-- A transmission in progress is never aborted, truncated or paused: short of a reset, a Running tick advances it by R232 and
every other step leaves it (R240). In a Running tick that finds the serializer Idle it stays as it is or one transmission starts
(R258), from its Lead; an owed re-encode comes first, and a keep-alive starts only when no slot has anything to send (R257). -/
def Obligations.TransmissionIsNeverInterrupted : Prop :=
  ∀ (s t : State), step s = .next t → s.env.rst = false →
    let clocked : Prop := s.env.pending = [] ∨ ∃ x rest, s.env.pending = .clock x :: rest
    (s.ser.state ≠ .idle → ∀ p, s.run = .running p → clocked → t.ser = serAdvance p s.ser)
      ∧ (s.run.isRunning = false ∨ ¬clocked → t.ser = s.ser)
      ∧ (s.ser.state = .idle → ∀ p, s.run = .running p → clocked →
        (t.ser = s.ser ∨ (t.ser.state = .lead ∧ t.ser.timer = BitVec.ofNat 32 p.tLead ∧ t.ser.idx = 0 ∧ t.ser.src ≠ .none))
          ∧ (s.cfg.topology ≠ 0 → s.rePending = true → t.ser.state = .lead ∧ t.ser.src = .re)
          ∧ (t.ser.state = .lead → t.ser.src = .ka → ∀ b, (t.slots.get b).state = .empty
              ∨ ((t.slots.get b).state = .holding ∧ (t.slots.get b).emitted = true)))

/-- The schedule of a transmission (R237): `k` advances after `start_tx`, with L = t_lead, H = t_half, G = t_lag and `len` bits, the
serializer is in the state of R237's table, and its bits, length and (until Idle) source are those it started with. -/
def Obligations.TransmissionRunsToSchedule : Prop :=
  ∀ (p : Profile) (r : Serializer), p.wf = true → r.state = .lead → r.timer = BitVec.ofNat 32 p.tLead → r.idx = 0 →
    1 ≤ r.len.toNat → r.len.toNat ≤ 256 →
    ∀ k : Nat,
      let u := (serAdvance p)^[k] r
      let h := p.tHalf
      let n := r.len.toNat
      u.buf = r.buf ∧ u.len = r.len
        ∧ (k < p.tLead → u.state = .lead ∧ u.src = r.src)
        ∧ (∀ i < n, p.tLead + 2 * h * i ≤ k → k < p.tLead + 2 * h * i + h →
            u.state = .first ∧ u.idx.toNat = i ∧ u.src = r.src)
        ∧ (∀ i < n, p.tLead + 2 * h * i + h ≤ k → k < p.tLead + 2 * h * i + 2 * h →
            u.state = .second ∧ u.idx.toNat = i ∧ u.src = r.src)
        ∧ (p.tLead + 2 * h * n ≤ k → k < p.tLead + 2 * h * n + p.tLag → u.state = .lag ∧ u.src = r.src)
        ∧ (p.tLead + 2 * h * n + p.tLag ≤ k → u.state = .idle ∧ u.src = .none)

/-- The outputs loaded at the end of a Running tick are the levels of R235 for the serializer's new state; DSP_OE follows R267;
AUDIO_MUTE is 0 (R266, R292). -/
def Obligations.OutputsFollowTheSerializer : Prop :=
  ∀ (s : State) (p : Profile) (x : Sample) (rest : List Input), TickDue p x rest s →
    let kOn : Bool := match p.clockEdgePolarity with | .rising => true | .falling => false
    ∃ t, step s = .next t
      ∧ t.out.audioMute = false
      ∧ (s.cfg.topology = 0 → (t.out.dspOe = true ↔ t.ser.state ≠ .idle))
      ∧ (s.cfg.topology ≠ 0 → t.out.dspOe = true)
      ∧ (t.ser.state = .idle →
          t.out.dspCs = !p.csActiveLevel ∧ t.out.dspClk = !kOn ∧ t.out.dspDat = false)
      ∧ (t.ser.state = .lead →
          t.out.dspCs = p.csActiveLevel ∧ t.out.dspClk = !kOn ∧ t.out.dspDat = t.ser.buf.getLsbD 0)
      ∧ (t.ser.state = .first →
          t.out.dspCs = p.csActiveLevel ∧ t.out.dspClk = !kOn ∧ t.out.dspDat = t.ser.buf.getLsbD t.ser.idx.toNat)
      ∧ (t.ser.state = .second →
          t.out.dspCs = p.csActiveLevel ∧ t.out.dspClk = kOn ∧ t.out.dspDat = t.ser.buf.getLsbD t.ser.idx.toNat)
      ∧ (t.ser.state = .lag →
          t.out.dspCs = p.csActiveLevel ∧ t.out.dspClk = !kOn
            ∧ t.out.dspDat = t.ser.buf.getLsbD (t.ser.len.toNat - 1))

/-! ### Forwarding and hibernate prevention (`45_bus_mux_arbitration.md`) -/

/-- Phase 2 (R253, R260): nothing in FourWire; in the 6-wire topologies a re-encode of the last accepted frame is owed after a
frame end and starts as soon as the serializer is Idle. -/
def Obligations.ReencodeOwedThenStarted : Prop :=
  ∀ (p : Profile) (s : State),
    let owed : Prop := s.rePending = true ∨ (s.sig.frameEnd = true ∧ s.bank.lastFrameValid = true)
    (s.cfg.topology = 0 → forward p s = s)
      ∧ (s.cfg.topology ≠ 0 → ¬owed → forward p s = s)
      ∧ (s.cfg.topology ≠ 0 → owed → s.ser.state ≠ .idle → forward p s = { s with rePending := true })
      ∧ (s.cfg.topology ≠ 0 → owed → s.ser.state = .idle → p.frameBitCount ≤ 256 →
          ∃ buf : FrameBits,
            (∀ i, buf.getLsbD i = (decide (i < p.frameBitCount) && s.bank.lastFrame.getLsbD i))
              ∧ forward p s =
                { s with
                  rePending := false
                  ser :=
                    { state := .lead, timer := BitVec.ofNat 32 p.tLead, idx := 0, len := BitVec.ofNat 9 p.frameBitCount,
                      buf := buf, src := .re }
                  sig := { s.sig with serNew := true } })

/-- Phase 4 (R263, R264): HIB_CNT is 0 with hibernate prevention off or after activity or a command start, and counts,
saturating, otherwise; at the timeout, with the serializer free and the CIO bus idle, the keep-alive starts and the count
begins again. -/
def Obligations.KeepAliveAtTheTimeout : Prop :=
  ∀ (p : Profile) (s : State),
    let cnt : BitVec 32 :=
      if s.cfg.hibEn = false ∨ s.sig.activity = true ∨ s.sig.cmdStarted = true then 0
      else if s.hibCnt = 0xFFFFFFFF then 0xFFFFFFFF else s.hibCnt + 1
    let due : Prop :=
      s.cfg.hibEn = true ∧ p.hibernateTimeout ≤ cnt.toNat ∧ s.ser.state = .idle ∧ s.sig.idleLine = true
    (¬due → hibernate p s = { s with hibCnt := cnt })
      ∧ (due → p.keepaliveCode.length ≤ 64 →
          ∃ buf : FrameBits, (∀ i, buf.getLsbD i = p.keepaliveCode.getD i false)
            ∧ hibernate p s =
              { s with
                hibCnt := 0
                ser :=
                  { state := .lead, timer := BitVec.ofNat 32 p.tLead, idx := 0,
                    len := BitVec.ofNat 9 p.keepaliveCode.length, buf := buf, src := .ka }
                sig := { s.sig with serNew := true } })

/-- NOW counts Running ticks and nothing else; a reset makes it 0 (R251, R37, R330). -/
def Obligations.NowCountsRunningTicks : Prop :=
  ∀ (s t : State), step s = .next t →
    let clocked : Prop := s.env.pending = [] ∨ ∃ x rest, s.env.pending = .clock x :: rest
    (clocked → s.env.rst = true → t.now = 0)
      ∧ (clocked → s.env.rst = false → s.run.isRunning = true → t.now = s.now + 1)
      ∧ (clocked → s.env.rst = false → s.run.isRunning = false → t.now = s.now)
      ∧ (¬clocked → t.now = s.now)

/-! ### Rules of the whole machine -/

/-- The invariant of every tick boundary holds after reset. -/
def Obligations.InvariantHoldsAtReset : Prop := Inv State.reset

/-- Every step keeps the invariant of every tick boundary (R31, R34, R47, R144, R151, R192, R232, R262, R267, R292, R331). -/
def Obligations.StepKeepsInvariant : Prop :=
  ∀ (s t : State), Inv s → step s = .next t → Inv t

/-- Every step keeps `P` in agreement with CFG, and short of a reset a Running block keeps its profile and its configuration
(R283, R280). -/
def Obligations.ProfileIsLatched : Prop :=
  ∀ (s t : State), step s = .next t →
    (ProfileAgrees s → ProfileAgrees t)
      ∧ (s.env.rst = false → s.run.isRunning = true → t.run = s.run ∧ t.cfg = s.cfg)

/-- ConfigError is left only by reset; a block in it keeps its outputs, and drives no DSP line at any tick boundary (R284, R285,
R291, R331). -/
def Obligations.ConfigErrorIsTerminal : Prop :=
  ∀ (s t : State), step s = .next t → s.env.rst = false → s.run = .configError →
    t.run = .configError ∧ t.out = s.out ∧ t.cfg = s.cfg ∧ t.now = s.now ∧ (Inv s → t.out.dspOe = false)

/-- The snapshot bank changes only at a SNAP write or a reset (R78). -/
def Obligations.SnapshotChangesOnlyAtSnap : Prop :=
  ∀ (s t : State), step s = .next t → s.env.rst = false →
    (∀ n (w : Word) rest, s.env.pending ≠ .write n (0x02C#12 ++ w) :: rest) → t.snap = s.snap

/-- No host transaction changes the live bank, the frame decoder's state, NOW or the serializer (R170, R171). -/
def Obligations.HostNeverWritesTheLiveBank : Prop :=
  ∀ (s t : State), step s = .next t → (∃ i rest, s.env.pending = i :: rest ∧ ∀ x, i ≠ .clock x) →
    t.bank = s.bank ∧ t.dec = s.dec ∧ t.now = s.now ∧ t.ser = s.ser ∧ t.smp = s.smp ∧ t.out = s.out

/-- A result bit the block has set stays set until the host writes a one to it or the block is reset (R43, R81, R307). -/
def Obligations.ResultBitsAreSticky : Prop :=
  ∀ (s t : State) (b : Nat), step s = .next t → s.env.rst = false →
    (s.delivered.getLsbD b = true →
        (∀ n (w : Word) rest, s.env.pending = .write n (0x024#12 ++ w) :: rest → w.getLsbD b = false) →
        t.delivered.getLsbD b = true)
      ∧ (s.failed.getLsbD b = true →
        (∀ n (w : Word) rest, s.env.pending = .write n (0x028#12 ++ w) :: rest → w.getLsbD b = false) →
        t.failed.getLsbD b = true)

/-- A disabled button's slot is Empty after every Running tick, so it emits nothing from then on (R196, R202). -/
def Obligations.DisabledButtonsHoldNoCommand : Prop :=
  ∀ (s : State) (p : Profile) (x : Sample) (rest : List Input) (b : ButtonId), TickDue p x rest s →
    s.btnEnable.getLsbD b.code = false → ∃ t, step s = .next t ∧ (t.slots.get b).state = .empty
end

