-- ==== Sys2Proof/Laws/State.lean ====
section
/-! SUPPORT. What each operation leaves as it was, one lemma per operation over every field it does not write, so that no later
proof unfolds a record update. -/

namespace Sys2Proof.Machine

/-- What `takeSnapshot` leaves. -/
@[simp] theorem takeSnapshot_frame (s : State) :
    (takeSnapshot s).run = s.run ∧ (takeSnapshot s).cfg = s.cfg ∧ (takeSnapshot s).btnEnable = s.btnEnable ∧
    (takeSnapshot s).smp = s.smp ∧ (takeSnapshot s).dec = s.dec ∧ (takeSnapshot s).bank = s.bank ∧
    (takeSnapshot s).now = s.now ∧ (takeSnapshot s).slots = s.slots ∧ (takeSnapshot s).delivered = s.delivered ∧
    (takeSnapshot s).failed = s.failed ∧ (takeSnapshot s).badCmd = s.badCmd ∧ (takeSnapshot s).rePending = s.rePending ∧
    (takeSnapshot s).hibCnt = s.hibCnt ∧ (takeSnapshot s).ser = s.ser ∧ (takeSnapshot s).out = s.out ∧
    (takeSnapshot s).sig = s.sig ∧ (takeSnapshot s).port = s.port ∧ (takeSnapshot s).env = s.env :=
  ⟨rfl, rfl, rfl, rfl, rfl, rfl, rfl, rfl, rfl, rfl, rfl, rfl, rfl, rfl, rfl, rfl, rfl, rfl⟩

/-- What `btnEnableWrite` leaves. -/
@[simp] theorem btnEnableWrite_frame (w : Word) (s : State) :
    (btnEnableWrite w s).run = s.run ∧ (btnEnableWrite w s).cfg = s.cfg ∧ (btnEnableWrite w s).smp = s.smp ∧
    (btnEnableWrite w s).dec = s.dec ∧ (btnEnableWrite w s).bank = s.bank ∧ (btnEnableWrite w s).now = s.now ∧
    (btnEnableWrite w s).snap = s.snap ∧ (btnEnableWrite w s).slots = s.slots ∧
    (btnEnableWrite w s).delivered = s.delivered ∧ (btnEnableWrite w s).failed = s.failed ∧
    (btnEnableWrite w s).badCmd = s.badCmd ∧ (btnEnableWrite w s).rePending = s.rePending ∧
    (btnEnableWrite w s).hibCnt = s.hibCnt ∧ (btnEnableWrite w s).ser = s.ser ∧ (btnEnableWrite w s).out = s.out ∧
    (btnEnableWrite w s).sig = s.sig ∧ (btnEnableWrite w s).port = s.port ∧ (btnEnableWrite w s).env = s.env :=
  ⟨rfl, rfl, rfl, rfl, rfl, rfl, rfl, rfl, rfl, rfl, rfl, rfl, rfl, rfl, rfl, rfl, rfl, rfl⟩

/-- What `deliveredWrite` leaves. -/
@[simp] theorem deliveredWrite_frame (w : Word) (s : State) :
    (deliveredWrite w s).run = s.run ∧ (deliveredWrite w s).cfg = s.cfg ∧ (deliveredWrite w s).btnEnable = s.btnEnable ∧
    (deliveredWrite w s).smp = s.smp ∧ (deliveredWrite w s).dec = s.dec ∧ (deliveredWrite w s).bank = s.bank ∧
    (deliveredWrite w s).now = s.now ∧ (deliveredWrite w s).snap = s.snap ∧ (deliveredWrite w s).slots = s.slots ∧
    (deliveredWrite w s).failed = s.failed ∧ (deliveredWrite w s).badCmd = s.badCmd ∧
    (deliveredWrite w s).rePending = s.rePending ∧ (deliveredWrite w s).hibCnt = s.hibCnt ∧
    (deliveredWrite w s).ser = s.ser ∧ (deliveredWrite w s).out = s.out ∧ (deliveredWrite w s).sig = s.sig ∧
    (deliveredWrite w s).port = s.port ∧ (deliveredWrite w s).env = s.env :=
  ⟨rfl, rfl, rfl, rfl, rfl, rfl, rfl, rfl, rfl, rfl, rfl, rfl, rfl, rfl, rfl, rfl, rfl, rfl⟩

/-- What `failedWrite` leaves. -/
@[simp] theorem failedWrite_frame (w : Word) (s : State) :
    (failedWrite w s).run = s.run ∧ (failedWrite w s).cfg = s.cfg ∧ (failedWrite w s).btnEnable = s.btnEnable ∧
    (failedWrite w s).smp = s.smp ∧ (failedWrite w s).dec = s.dec ∧ (failedWrite w s).bank = s.bank ∧
    (failedWrite w s).now = s.now ∧ (failedWrite w s).snap = s.snap ∧ (failedWrite w s).slots = s.slots ∧
    (failedWrite w s).delivered = s.delivered ∧ (failedWrite w s).badCmd = s.badCmd ∧
    (failedWrite w s).rePending = s.rePending ∧ (failedWrite w s).hibCnt = s.hibCnt ∧ (failedWrite w s).ser = s.ser ∧
    (failedWrite w s).out = s.out ∧ (failedWrite w s).sig = s.sig ∧ (failedWrite w s).port = s.port ∧
    (failedWrite w s).env = s.env :=
  ⟨rfl, rfl, rfl, rfl, rfl, rfl, rfl, rfl, rfl, rfl, rfl, rfl, rfl, rfl, rfl, rfl, rfl, rfl⟩

/-- What `statusWrite` leaves. -/
@[simp] theorem statusWrite_frame (w : Word) (s : State) :
    (statusWrite w s).run = s.run ∧ (statusWrite w s).cfg = s.cfg ∧ (statusWrite w s).btnEnable = s.btnEnable ∧
    (statusWrite w s).smp = s.smp ∧ (statusWrite w s).dec = s.dec ∧ (statusWrite w s).bank = s.bank ∧
    (statusWrite w s).now = s.now ∧ (statusWrite w s).snap = s.snap ∧ (statusWrite w s).slots = s.slots ∧
    (statusWrite w s).delivered = s.delivered ∧ (statusWrite w s).failed = s.failed ∧
    (statusWrite w s).rePending = s.rePending ∧ (statusWrite w s).hibCnt = s.hibCnt ∧ (statusWrite w s).ser = s.ser ∧
    (statusWrite w s).out = s.out ∧ (statusWrite w s).sig = s.sig ∧ (statusWrite w s).port = s.port ∧
    (statusWrite w s).env = s.env :=
  by unfold statusWrite; split <;> simp

/-- What `cfgWrite` leaves. -/
@[simp] theorem cfgWrite_frame (w : Word) (s : State) :
    (cfgWrite w s).run = s.run ∧ (cfgWrite w s).btnEnable = s.btnEnable ∧ (cfgWrite w s).smp = s.smp ∧
    (cfgWrite w s).dec = s.dec ∧ (cfgWrite w s).bank = s.bank ∧ (cfgWrite w s).now = s.now ∧ (cfgWrite w s).snap = s.snap ∧
    (cfgWrite w s).slots = s.slots ∧ (cfgWrite w s).delivered = s.delivered ∧ (cfgWrite w s).failed = s.failed ∧
    (cfgWrite w s).badCmd = s.badCmd ∧ (cfgWrite w s).rePending = s.rePending ∧ (cfgWrite w s).hibCnt = s.hibCnt ∧
    (cfgWrite w s).ser = s.ser ∧ (cfgWrite w s).out = s.out ∧ (cfgWrite w s).sig = s.sig ∧ (cfgWrite w s).port = s.port ∧
    (cfgWrite w s).env = s.env :=
  by unfold cfgWrite; split <;> simp

/-- What `start` leaves. -/
@[simp] theorem start_frame (s : State) :
    (start s).cfg = s.cfg ∧ (start s).btnEnable = s.btnEnable ∧ (start s).smp = s.smp ∧ (start s).dec = s.dec ∧
    (start s).bank = s.bank ∧ (start s).now = s.now ∧ (start s).snap = s.snap ∧ (start s).slots = s.slots ∧
    (start s).delivered = s.delivered ∧ (start s).failed = s.failed ∧ (start s).badCmd = s.badCmd ∧
    (start s).rePending = s.rePending ∧ (start s).hibCnt = s.hibCnt ∧ (start s).ser = s.ser ∧ (start s).out = s.out ∧
    (start s).sig = s.sig ∧ (start s).port = s.port ∧ (start s).env = s.env :=
  by unfold start; repeat (first | split | simp [raise])

/-- What `ctrlWrite` leaves. -/
@[simp] theorem ctrlWrite_frame (w : Word) (s : State) :
    (ctrlWrite w s).cfg = s.cfg ∧ (ctrlWrite w s).btnEnable = s.btnEnable ∧ (ctrlWrite w s).smp = s.smp ∧
    (ctrlWrite w s).dec = s.dec ∧ (ctrlWrite w s).bank = s.bank ∧ (ctrlWrite w s).now = s.now ∧
    (ctrlWrite w s).snap = s.snap ∧ (ctrlWrite w s).slots = s.slots ∧ (ctrlWrite w s).delivered = s.delivered ∧
    (ctrlWrite w s).failed = s.failed ∧ (ctrlWrite w s).badCmd = s.badCmd ∧ (ctrlWrite w s).rePending = s.rePending ∧
    (ctrlWrite w s).hibCnt = s.hibCnt ∧ (ctrlWrite w s).ser = s.ser ∧ (ctrlWrite w s).out = s.out ∧
    (ctrlWrite w s).sig = s.sig ∧ (ctrlWrite w s).port = s.port ∧ (ctrlWrite w s).env = s.env :=
  by unfold ctrlWrite; split <;> simp

/-- What `illegalCommand` leaves. -/
@[simp] theorem illegalCommand_frame (s : State) :
    (illegalCommand s).run = s.run ∧ (illegalCommand s).cfg = s.cfg ∧ (illegalCommand s).btnEnable = s.btnEnable ∧
    (illegalCommand s).smp = s.smp ∧ (illegalCommand s).dec = s.dec ∧ (illegalCommand s).bank = s.bank ∧
    (illegalCommand s).now = s.now ∧ (illegalCommand s).snap = s.snap ∧ (illegalCommand s).slots = s.slots ∧
    (illegalCommand s).delivered = s.delivered ∧ (illegalCommand s).failed = s.failed ∧
    (illegalCommand s).rePending = s.rePending ∧ (illegalCommand s).hibCnt = s.hibCnt ∧ (illegalCommand s).ser = s.ser ∧
    (illegalCommand s).out = s.out ∧ (illegalCommand s).sig = s.sig ∧ (illegalCommand s).port = s.port ∧
    (illegalCommand s).env = s.env :=
  ⟨rfl, rfl, rfl, rfl, rfl, rfl, rfl, rfl, rfl, rfl, rfl, rfl, rfl, rfl, rfl, rfl, rfl, rfl⟩

/-- What `enqueue` leaves. -/
@[simp] theorem enqueue_frame (b : ButtonId) (k : SlotState) (s : State) :
    (enqueue b k s).run = s.run ∧ (enqueue b k s).cfg = s.cfg ∧ (enqueue b k s).btnEnable = s.btnEnable ∧
    (enqueue b k s).smp = s.smp ∧ (enqueue b k s).dec = s.dec ∧ (enqueue b k s).bank = s.bank ∧ (enqueue b k s).now = s.now ∧
    (enqueue b k s).snap = s.snap ∧ (enqueue b k s).delivered = s.delivered ∧ (enqueue b k s).badCmd = s.badCmd ∧
    (enqueue b k s).rePending = s.rePending ∧ (enqueue b k s).hibCnt = s.hibCnt ∧ (enqueue b k s).ser = s.ser ∧
    (enqueue b k s).out = s.out ∧ (enqueue b k s).sig = s.sig ∧ (enqueue b k s).port = s.port ∧
    (enqueue b k s).env = s.env :=
  by unfold enqueue; split <;> simp [raise]

/-- What `releaseCommand` leaves. -/
@[simp] theorem releaseCommand_frame (b : ButtonId) (s : State) :
    (releaseCommand b s).run = s.run ∧ (releaseCommand b s).cfg = s.cfg ∧ (releaseCommand b s).btnEnable = s.btnEnable ∧
    (releaseCommand b s).smp = s.smp ∧ (releaseCommand b s).dec = s.dec ∧ (releaseCommand b s).bank = s.bank ∧
    (releaseCommand b s).now = s.now ∧ (releaseCommand b s).snap = s.snap ∧ (releaseCommand b s).delivered = s.delivered ∧
    (releaseCommand b s).failed = s.failed ∧ (releaseCommand b s).badCmd = s.badCmd ∧
    (releaseCommand b s).rePending = s.rePending ∧ (releaseCommand b s).hibCnt = s.hibCnt ∧
    (releaseCommand b s).ser = s.ser ∧ (releaseCommand b s).out = s.out ∧ (releaseCommand b s).sig = s.sig ∧
    (releaseCommand b s).port = s.port ∧ (releaseCommand b s).env = s.env :=
  ⟨rfl, rfl, rfl, rfl, rfl, rfl, rfl, rfl, rfl, rfl, rfl, rfl, rfl, rfl, rfl, rfl, rfl, rfl⟩

/-- What `answerRead` leaves. -/
@[simp] theorem answerRead_frame (v : Word) (s : State) :
    (answerRead v s).run = s.run ∧ (answerRead v s).cfg = s.cfg ∧ (answerRead v s).btnEnable = s.btnEnable ∧
    (answerRead v s).smp = s.smp ∧ (answerRead v s).dec = s.dec ∧ (answerRead v s).bank = s.bank ∧
    (answerRead v s).now = s.now ∧ (answerRead v s).snap = s.snap ∧ (answerRead v s).slots = s.slots ∧
    (answerRead v s).delivered = s.delivered ∧ (answerRead v s).failed = s.failed ∧ (answerRead v s).badCmd = s.badCmd ∧
    (answerRead v s).rePending = s.rePending ∧ (answerRead v s).hibCnt = s.hibCnt ∧ (answerRead v s).ser = s.ser ∧
    (answerRead v s).out = s.out ∧ (answerRead v s).sig = s.sig ∧ (answerRead v s).env = s.env :=
  ⟨rfl, rfl, rfl, rfl, rfl, rfl, rfl, rfl, rfl, rfl, rfl, rfl, rfl, rfl, rfl, rfl, rfl, rfl⟩

/-- What `startTx` leaves. -/
@[simp] theorem startTx_frame (p : Profile) (v : FrameBits) (n : Nat) (src : SerSource) (s : State) :
    (startTx p v n src s).run = s.run ∧ (startTx p v n src s).cfg = s.cfg ∧ (startTx p v n src s).btnEnable = s.btnEnable ∧
    (startTx p v n src s).smp = s.smp ∧ (startTx p v n src s).dec = s.dec ∧ (startTx p v n src s).bank = s.bank ∧
    (startTx p v n src s).now = s.now ∧ (startTx p v n src s).snap = s.snap ∧ (startTx p v n src s).slots = s.slots ∧
    (startTx p v n src s).delivered = s.delivered ∧ (startTx p v n src s).failed = s.failed ∧
    (startTx p v n src s).badCmd = s.badCmd ∧ (startTx p v n src s).rePending = s.rePending ∧
    (startTx p v n src s).hibCnt = s.hibCnt ∧ (startTx p v n src s).out = s.out ∧ (startTx p v n src s).port = s.port ∧
    (startTx p v n src s).env = s.env :=
  ⟨rfl, rfl, rfl, rfl, rfl, rfl, rfl, rfl, rfl, rfl, rfl, rfl, rfl, rfl, rfl, rfl, rfl⟩

/-- What `startTxCode` leaves. -/
@[simp] theorem startTxCode_frame (p : Profile) (c : List Bool) (src : SerSource) (s : State) :
    (startTxCode p c src s).run = s.run ∧ (startTxCode p c src s).cfg = s.cfg ∧
    (startTxCode p c src s).btnEnable = s.btnEnable ∧ (startTxCode p c src s).smp = s.smp ∧
    (startTxCode p c src s).dec = s.dec ∧ (startTxCode p c src s).bank = s.bank ∧ (startTxCode p c src s).now = s.now ∧
    (startTxCode p c src s).snap = s.snap ∧ (startTxCode p c src s).slots = s.slots ∧
    (startTxCode p c src s).delivered = s.delivered ∧ (startTxCode p c src s).failed = s.failed ∧
    (startTxCode p c src s).badCmd = s.badCmd ∧ (startTxCode p c src s).rePending = s.rePending ∧
    (startTxCode p c src s).hibCnt = s.hibCnt ∧ (startTxCode p c src s).out = s.out ∧ (startTxCode p c src s).port = s.port ∧
    (startTxCode p c src s).env = s.env :=
  ⟨rfl, rfl, rfl, rfl, rfl, rfl, rfl, rfl, rfl, rfl, rfl, rfl, rfl, rfl, rfl, rfl, rfl⟩

/-- What `beginTick` leaves. -/
@[simp] theorem beginTick_frame (s : State) :
    (beginTick s).run = s.run ∧ (beginTick s).cfg = s.cfg ∧ (beginTick s).btnEnable = s.btnEnable ∧
    (beginTick s).smp = s.smp ∧ (beginTick s).dec = s.dec ∧ (beginTick s).bank = s.bank ∧ (beginTick s).now = s.now ∧
    (beginTick s).snap = s.snap ∧ (beginTick s).slots = s.slots ∧ (beginTick s).delivered = s.delivered ∧
    (beginTick s).failed = s.failed ∧ (beginTick s).badCmd = s.badCmd ∧ (beginTick s).rePending = s.rePending ∧
    (beginTick s).hibCnt = s.hibCnt ∧ (beginTick s).ser = s.ser ∧ (beginTick s).out = s.out ∧ (beginTick s).port = s.port ∧
    (beginTick s).env = s.env :=
  ⟨rfl, rfl, rfl, rfl, rfl, rfl, rfl, rfl, rfl, rfl, rfl, rfl, rfl, rfl, rfl, rfl, rfl, rfl⟩

/-- What `countQuiet` leaves. -/
@[simp] theorem countQuiet_frame (s : State) :
    (countQuiet s).run = s.run ∧ (countQuiet s).cfg = s.cfg ∧ (countQuiet s).btnEnable = s.btnEnable ∧
    (countQuiet s).dec = s.dec ∧ (countQuiet s).bank = s.bank ∧ (countQuiet s).now = s.now ∧ (countQuiet s).snap = s.snap ∧
    (countQuiet s).delivered = s.delivered ∧ (countQuiet s).failed = s.failed ∧ (countQuiet s).badCmd = s.badCmd ∧
    (countQuiet s).rePending = s.rePending ∧ (countQuiet s).hibCnt = s.hibCnt ∧ (countQuiet s).ser = s.ser ∧
    (countQuiet s).out = s.out ∧ (countQuiet s).sig = s.sig ∧ (countQuiet s).port = s.port ∧ (countQuiet s).env = s.env :=
  by unfold countQuiet; split <;> simp

/-- What `sampleMasked` leaves. -/
@[simp] theorem sampleMasked_frame (s : State) :
    (sampleMasked s).run = s.run ∧ (sampleMasked s).cfg = s.cfg ∧ (sampleMasked s).btnEnable = s.btnEnable ∧
    (sampleMasked s).dec = s.dec ∧ (sampleMasked s).bank = s.bank ∧ (sampleMasked s).now = s.now ∧
    (sampleMasked s).snap = s.snap ∧ (sampleMasked s).slots = s.slots ∧ (sampleMasked s).delivered = s.delivered ∧
    (sampleMasked s).failed = s.failed ∧ (sampleMasked s).badCmd = s.badCmd ∧ (sampleMasked s).rePending = s.rePending ∧
    (sampleMasked s).hibCnt = s.hibCnt ∧ (sampleMasked s).ser = s.ser ∧ (sampleMasked s).out = s.out ∧
    (sampleMasked s).port = s.port ∧ (sampleMasked s).env = s.env :=
  ⟨rfl, rfl, rfl, rfl, rfl, rfl, rfl, rfl, rfl, rfl, rfl, rfl, rfl, rfl, rfl, rfl, rfl⟩

/-- What `loadHistory` leaves. -/
@[simp] theorem loadHistory_frame (x : Sample) (s : State) :
    (loadHistory x s).run = s.run ∧ (loadHistory x s).cfg = s.cfg ∧ (loadHistory x s).btnEnable = s.btnEnable ∧
    (loadHistory x s).dec = s.dec ∧ (loadHistory x s).bank = s.bank ∧ (loadHistory x s).now = s.now ∧
    (loadHistory x s).snap = s.snap ∧ (loadHistory x s).slots = s.slots ∧ (loadHistory x s).delivered = s.delivered ∧
    (loadHistory x s).failed = s.failed ∧ (loadHistory x s).badCmd = s.badCmd ∧ (loadHistory x s).rePending = s.rePending ∧
    (loadHistory x s).hibCnt = s.hibCnt ∧ (loadHistory x s).ser = s.ser ∧ (loadHistory x s).out = s.out ∧
    (loadHistory x s).port = s.port ∧ (loadHistory x s).env = s.env :=
  ⟨rfl, rfl, rfl, rfl, rfl, rfl, rfl, rfl, rfl, rfl, rfl, rfl, rfl, rfl, rfl, rfl, rfl⟩

/-- What `sampleEvent` leaves. -/
@[simp] theorem sampleEvent_frame (p : Profile) (x : Sample) (s : State) :
    (sampleEvent p x s).run = s.run ∧ (sampleEvent p x s).cfg = s.cfg ∧ (sampleEvent p x s).btnEnable = s.btnEnable ∧
    (sampleEvent p x s).dec = s.dec ∧ (sampleEvent p x s).bank = s.bank ∧ (sampleEvent p x s).now = s.now ∧
    (sampleEvent p x s).snap = s.snap ∧ (sampleEvent p x s).slots = s.slots ∧ (sampleEvent p x s).delivered = s.delivered ∧
    (sampleEvent p x s).failed = s.failed ∧ (sampleEvent p x s).badCmd = s.badCmd ∧
    (sampleEvent p x s).rePending = s.rePending ∧ (sampleEvent p x s).hibCnt = s.hibCnt ∧ (sampleEvent p x s).ser = s.ser ∧
    (sampleEvent p x s).out = s.out ∧ (sampleEvent p x s).port = s.port ∧ (sampleEvent p x s).env = s.env :=
  ⟨rfl, rfl, rfl, rfl, rfl, rfl, rfl, rfl, rfl, rfl, rfl, rfl, rfl, rfl, rfl, rfl, rfl⟩

/-- What `sampler` leaves. -/
@[simp] theorem sampler_frame (p : Profile) (x : Sample) (s : State) :
    (sampler p x s).run = s.run ∧ (sampler p x s).cfg = s.cfg ∧ (sampler p x s).btnEnable = s.btnEnable ∧
    (sampler p x s).dec = s.dec ∧ (sampler p x s).bank = s.bank ∧ (sampler p x s).now = s.now ∧
    (sampler p x s).snap = s.snap ∧ (sampler p x s).delivered = s.delivered ∧ (sampler p x s).failed = s.failed ∧
    (sampler p x s).badCmd = s.badCmd ∧ (sampler p x s).rePending = s.rePending ∧ (sampler p x s).hibCnt = s.hibCnt ∧
    (sampler p x s).ser = s.ser ∧ (sampler p x s).out = s.out ∧ (sampler p x s).port = s.port ∧
    (sampler p x s).env = s.env :=
  by unfold sampler; split <;> [skip; split] <;> simp

/-- What `tickHead` leaves. -/
@[simp] theorem tickHead_frame (p : Profile) (x : Sample) (s : State) :
    (tickHead p x s).run = s.run ∧ (tickHead p x s).cfg = s.cfg ∧ (tickHead p x s).btnEnable = s.btnEnable ∧
    (tickHead p x s).dec = s.dec ∧ (tickHead p x s).bank = s.bank ∧ (tickHead p x s).now = s.now ∧
    (tickHead p x s).snap = s.snap ∧ (tickHead p x s).delivered = s.delivered ∧ (tickHead p x s).failed = s.failed ∧
    (tickHead p x s).badCmd = s.badCmd ∧ (tickHead p x s).rePending = s.rePending ∧ (tickHead p x s).hibCnt = s.hibCnt ∧
    (tickHead p x s).ser = s.ser ∧ (tickHead p x s).out = s.out ∧ (tickHead p x s).port = s.port ∧
    (tickHead p x s).env = s.env :=
  by unfold tickHead; simp

/-- What `endFrame` leaves. -/
@[simp] theorem endFrame_frame (s : State) :
    (endFrame s).run = s.run ∧ (endFrame s).cfg = s.cfg ∧ (endFrame s).btnEnable = s.btnEnable ∧ (endFrame s).smp = s.smp ∧
    (endFrame s).bank = s.bank ∧ (endFrame s).now = s.now ∧ (endFrame s).snap = s.snap ∧ (endFrame s).slots = s.slots ∧
    (endFrame s).delivered = s.delivered ∧ (endFrame s).failed = s.failed ∧ (endFrame s).badCmd = s.badCmd ∧
    (endFrame s).rePending = s.rePending ∧ (endFrame s).hibCnt = s.hibCnt ∧ (endFrame s).ser = s.ser ∧
    (endFrame s).out = s.out ∧ (endFrame s).port = s.port ∧ (endFrame s).env = s.env :=
  ⟨rfl, rfl, rfl, rfl, rfl, rfl, rfl, rfl, rfl, rfl, rfl, rfl, rfl, rfl, rfl, rfl, rfl⟩

/-- What `applyFrame` leaves. -/
@[simp] theorem applyFrame_frame (p : Profile) (v : FrameBits) (s : State) :
    (applyFrame p v s).run = s.run ∧ (applyFrame p v s).cfg = s.cfg ∧ (applyFrame p v s).btnEnable = s.btnEnable ∧
    (applyFrame p v s).smp = s.smp ∧ (applyFrame p v s).now = s.now ∧ (applyFrame p v s).snap = s.snap ∧
    (applyFrame p v s).slots = s.slots ∧ (applyFrame p v s).delivered = s.delivered ∧ (applyFrame p v s).failed = s.failed ∧
    (applyFrame p v s).badCmd = s.badCmd ∧ (applyFrame p v s).rePending = s.rePending ∧
    (applyFrame p v s).hibCnt = s.hibCnt ∧ (applyFrame p v s).ser = s.ser ∧ (applyFrame p v s).out = s.out ∧
    (applyFrame p v s).port = s.port ∧ (applyFrame p v s).env = s.env :=
  ⟨rfl, rfl, rfl, rfl, rfl, rfl, rfl, rfl, rfl, rfl, rfl, rfl, rfl, rfl, rfl, rfl⟩

/-- What `dropFrame` leaves. -/
@[simp] theorem dropFrame_frame (v : FrameBits) (s : State) :
    (dropFrame v s).run = s.run ∧ (dropFrame v s).cfg = s.cfg ∧ (dropFrame v s).btnEnable = s.btnEnable ∧
    (dropFrame v s).smp = s.smp ∧ (dropFrame v s).bank = s.bank ∧ (dropFrame v s).now = s.now ∧
    (dropFrame v s).snap = s.snap ∧ (dropFrame v s).slots = s.slots ∧ (dropFrame v s).delivered = s.delivered ∧
    (dropFrame v s).failed = s.failed ∧ (dropFrame v s).badCmd = s.badCmd ∧ (dropFrame v s).rePending = s.rePending ∧
    (dropFrame v s).hibCnt = s.hibCnt ∧ (dropFrame v s).ser = s.ser ∧ (dropFrame v s).out = s.out ∧
    (dropFrame v s).port = s.port ∧ (dropFrame v s).env = s.env :=
  ⟨rfl, rfl, rfl, rfl, rfl, rfl, rfl, rfl, rfl, rfl, rfl, rfl, rfl, rfl, rfl, rfl, rfl⟩

/-- What `earlyDeassert` leaves. -/
@[simp] theorem earlyDeassert_frame (s : State) :
    (earlyDeassert s).run = s.run ∧ (earlyDeassert s).cfg = s.cfg ∧ (earlyDeassert s).btnEnable = s.btnEnable ∧
    (earlyDeassert s).smp = s.smp ∧ (earlyDeassert s).bank = s.bank ∧ (earlyDeassert s).now = s.now ∧
    (earlyDeassert s).snap = s.snap ∧ (earlyDeassert s).slots = s.slots ∧ (earlyDeassert s).delivered = s.delivered ∧
    (earlyDeassert s).failed = s.failed ∧ (earlyDeassert s).badCmd = s.badCmd ∧ (earlyDeassert s).rePending = s.rePending ∧
    (earlyDeassert s).hibCnt = s.hibCnt ∧ (earlyDeassert s).ser = s.ser ∧ (earlyDeassert s).out = s.out ∧
    (earlyDeassert s).port = s.port ∧ (earlyDeassert s).env = s.env :=
  ⟨rfl, rfl, rfl, rfl, rfl, rfl, rfl, rfl, rfl, rfl, rfl, rfl, rfl, rfl, rfl, rfl, rfl⟩

/-- What `completeFrame` leaves. -/
@[simp] theorem completeFrame_frame (p : Profile) (s : State) :
    (completeFrame p s).run = s.run ∧ (completeFrame p s).cfg = s.cfg ∧ (completeFrame p s).btnEnable = s.btnEnable ∧
    (completeFrame p s).smp = s.smp ∧ (completeFrame p s).now = s.now ∧ (completeFrame p s).snap = s.snap ∧
    (completeFrame p s).slots = s.slots ∧ (completeFrame p s).delivered = s.delivered ∧
    (completeFrame p s).failed = s.failed ∧ (completeFrame p s).badCmd = s.badCmd ∧
    (completeFrame p s).rePending = s.rePending ∧ (completeFrame p s).hibCnt = s.hibCnt ∧ (completeFrame p s).ser = s.ser ∧
    (completeFrame p s).out = s.out ∧ (completeFrame p s).port = s.port ∧ (completeFrame p s).env = s.env :=
  by unfold completeFrame; split <;> simp

/-- What `captureBit` leaves. -/
@[simp] theorem captureBit_frame (p : Profile) (d : Bool) (s : State) :
    (captureBit p d s).run = s.run ∧ (captureBit p d s).cfg = s.cfg ∧ (captureBit p d s).btnEnable = s.btnEnable ∧
    (captureBit p d s).smp = s.smp ∧ (captureBit p d s).now = s.now ∧ (captureBit p d s).snap = s.snap ∧
    (captureBit p d s).slots = s.slots ∧ (captureBit p d s).delivered = s.delivered ∧ (captureBit p d s).failed = s.failed ∧
    (captureBit p d s).badCmd = s.badCmd ∧ (captureBit p d s).rePending = s.rePending ∧
    (captureBit p d s).hibCnt = s.hibCnt ∧ (captureBit p d s).ser = s.ser ∧ (captureBit p d s).out = s.out ∧
    (captureBit p d s).port = s.port ∧ (captureBit p d s).env = s.env :=
  by unfold captureBit; split <;> simp

/-- What `onBit` leaves. -/
@[simp] theorem onBit_frame (d : Bool) (p : Profile) (s : State) :
    (onBit d p s).run = s.run ∧ (onBit d p s).cfg = s.cfg ∧ (onBit d p s).btnEnable = s.btnEnable ∧
    (onBit d p s).smp = s.smp ∧ (onBit d p s).now = s.now ∧ (onBit d p s).snap = s.snap ∧ (onBit d p s).slots = s.slots ∧
    (onBit d p s).delivered = s.delivered ∧ (onBit d p s).failed = s.failed ∧ (onBit d p s).badCmd = s.badCmd ∧
    (onBit d p s).rePending = s.rePending ∧ (onBit d p s).hibCnt = s.hibCnt ∧ (onBit d p s).ser = s.ser ∧
    (onBit d p s).out = s.out ∧ (onBit d p s).port = s.port ∧ (onBit d p s).env = s.env :=
  by unfold onBit; split <;> simp

/-- What `onCsAssert` leaves. -/
@[simp] theorem onCsAssert_frame (p : Profile) (s : State) :
    (onCsAssert p s).run = s.run ∧ (onCsAssert p s).cfg = s.cfg ∧ (onCsAssert p s).btnEnable = s.btnEnable ∧
    (onCsAssert p s).smp = s.smp ∧ (onCsAssert p s).bank = s.bank ∧ (onCsAssert p s).now = s.now ∧
    (onCsAssert p s).snap = s.snap ∧ (onCsAssert p s).slots = s.slots ∧ (onCsAssert p s).delivered = s.delivered ∧
    (onCsAssert p s).failed = s.failed ∧ (onCsAssert p s).badCmd = s.badCmd ∧ (onCsAssert p s).rePending = s.rePending ∧
    (onCsAssert p s).hibCnt = s.hibCnt ∧ (onCsAssert p s).ser = s.ser ∧ (onCsAssert p s).out = s.out ∧
    (onCsAssert p s).sig = s.sig ∧ (onCsAssert p s).port = s.port ∧ (onCsAssert p s).env = s.env :=
  ⟨rfl, rfl, rfl, rfl, rfl, rfl, rfl, rfl, rfl, rfl, rfl, rfl, rfl, rfl, rfl, rfl, rfl, rfl⟩

/-- What `onCsDeassert` leaves. -/
@[simp] theorem onCsDeassert_frame (p : Profile) (s : State) :
    (onCsDeassert p s).run = s.run ∧ (onCsDeassert p s).cfg = s.cfg ∧ (onCsDeassert p s).btnEnable = s.btnEnable ∧
    (onCsDeassert p s).smp = s.smp ∧ (onCsDeassert p s).bank = s.bank ∧ (onCsDeassert p s).now = s.now ∧
    (onCsDeassert p s).snap = s.snap ∧ (onCsDeassert p s).slots = s.slots ∧ (onCsDeassert p s).delivered = s.delivered ∧
    (onCsDeassert p s).failed = s.failed ∧ (onCsDeassert p s).badCmd = s.badCmd ∧
    (onCsDeassert p s).rePending = s.rePending ∧ (onCsDeassert p s).hibCnt = s.hibCnt ∧ (onCsDeassert p s).ser = s.ser ∧
    (onCsDeassert p s).out = s.out ∧ (onCsDeassert p s).port = s.port ∧ (onCsDeassert p s).env = s.env :=
  by unfold onCsDeassert; split <;> simp

/-- What `detectIdle` leaves. -/
@[simp] theorem detectIdle_frame (p : Profile) (x : Sample) (s : State) :
    (detectIdle p x s).run = s.run ∧ (detectIdle p x s).cfg = s.cfg ∧ (detectIdle p x s).btnEnable = s.btnEnable ∧
    (detectIdle p x s).smp = s.smp ∧ (detectIdle p x s).dec = s.dec ∧ (detectIdle p x s).bank = s.bank ∧
    (detectIdle p x s).now = s.now ∧ (detectIdle p x s).snap = s.snap ∧ (detectIdle p x s).slots = s.slots ∧
    (detectIdle p x s).delivered = s.delivered ∧ (detectIdle p x s).failed = s.failed ∧
    (detectIdle p x s).badCmd = s.badCmd ∧ (detectIdle p x s).rePending = s.rePending ∧
    (detectIdle p x s).hibCnt = s.hibCnt ∧ (detectIdle p x s).ser = s.ser ∧ (detectIdle p x s).out = s.out ∧
    (detectIdle p x s).port = s.port ∧ (detectIdle p x s).env = s.env :=
  ⟨rfl, rfl, rfl, rfl, rfl, rfl, rfl, rfl, rfl, rfl, rfl, rfl, rfl, rfl, rfl, rfl, rfl, rfl⟩

/-- What `oweReencode` leaves. -/
@[simp] theorem oweReencode_frame (s : State) :
    (oweReencode s).run = s.run ∧ (oweReencode s).cfg = s.cfg ∧ (oweReencode s).btnEnable = s.btnEnable ∧
    (oweReencode s).smp = s.smp ∧ (oweReencode s).dec = s.dec ∧ (oweReencode s).bank = s.bank ∧ (oweReencode s).now = s.now ∧
    (oweReencode s).snap = s.snap ∧ (oweReencode s).slots = s.slots ∧ (oweReencode s).delivered = s.delivered ∧
    (oweReencode s).failed = s.failed ∧ (oweReencode s).badCmd = s.badCmd ∧ (oweReencode s).hibCnt = s.hibCnt ∧
    (oweReencode s).ser = s.ser ∧ (oweReencode s).out = s.out ∧ (oweReencode s).sig = s.sig ∧ (oweReencode s).port = s.port ∧
    (oweReencode s).env = s.env :=
  by unfold oweReencode; split <;> simp

/-- What `startReencode` leaves. -/
@[simp] theorem startReencode_frame (p : Profile) (s : State) :
    (startReencode p s).run = s.run ∧ (startReencode p s).cfg = s.cfg ∧ (startReencode p s).btnEnable = s.btnEnable ∧
    (startReencode p s).smp = s.smp ∧ (startReencode p s).dec = s.dec ∧ (startReencode p s).bank = s.bank ∧
    (startReencode p s).now = s.now ∧ (startReencode p s).snap = s.snap ∧ (startReencode p s).slots = s.slots ∧
    (startReencode p s).delivered = s.delivered ∧ (startReencode p s).failed = s.failed ∧
    (startReencode p s).badCmd = s.badCmd ∧ (startReencode p s).hibCnt = s.hibCnt ∧ (startReencode p s).out = s.out ∧
    (startReencode p s).port = s.port ∧ (startReencode p s).env = s.env :=
  by unfold startReencode; split <;> simp

/-- What `forward` leaves. -/
@[simp] theorem forward_frame (p : Profile) (s : State) :
    (forward p s).run = s.run ∧ (forward p s).cfg = s.cfg ∧ (forward p s).btnEnable = s.btnEnable ∧
    (forward p s).smp = s.smp ∧ (forward p s).dec = s.dec ∧ (forward p s).bank = s.bank ∧ (forward p s).now = s.now ∧
    (forward p s).snap = s.snap ∧ (forward p s).slots = s.slots ∧ (forward p s).delivered = s.delivered ∧
    (forward p s).failed = s.failed ∧ (forward p s).badCmd = s.badCmd ∧ (forward p s).hibCnt = s.hibCnt ∧
    (forward p s).out = s.out ∧ (forward p s).port = s.port ∧ (forward p s).env = s.env :=
  by unfold forward; split <;> simp

/-- What `gate` leaves. -/
@[simp] theorem gate_frame (s : State) :
    (gate s).run = s.run ∧ (gate s).cfg = s.cfg ∧ (gate s).btnEnable = s.btnEnable ∧ (gate s).smp = s.smp ∧
    (gate s).dec = s.dec ∧ (gate s).bank = s.bank ∧ (gate s).now = s.now ∧ (gate s).snap = s.snap ∧
    (gate s).delivered = s.delivered ∧ (gate s).badCmd = s.badCmd ∧ (gate s).rePending = s.rePending ∧
    (gate s).hibCnt = s.hibCnt ∧ (gate s).ser = s.ser ∧ (gate s).out = s.out ∧ (gate s).sig = s.sig ∧
    (gate s).port = s.port ∧ (gate s).env = s.env :=
  ⟨rfl, rfl, rfl, rfl, rfl, rfl, rfl, rfl, rfl, rfl, rfl, rfl, rfl, rfl, rfl, rfl, rfl⟩

/-- What `expire` leaves. -/
@[simp] theorem expire_frame (p : Profile) (s : State) :
    (expire p s).run = s.run ∧ (expire p s).cfg = s.cfg ∧ (expire p s).btnEnable = s.btnEnable ∧ (expire p s).smp = s.smp ∧
    (expire p s).dec = s.dec ∧ (expire p s).bank = s.bank ∧ (expire p s).now = s.now ∧ (expire p s).snap = s.snap ∧
    (expire p s).delivered = s.delivered ∧ (expire p s).failed = s.failed ∧ (expire p s).badCmd = s.badCmd ∧
    (expire p s).rePending = s.rePending ∧ (expire p s).hibCnt = s.hibCnt ∧ (expire p s).ser = s.ser ∧
    (expire p s).out = s.out ∧ (expire p s).sig = s.sig ∧ (expire p s).port = s.port ∧ (expire p s).env = s.env :=
  ⟨rfl, rfl, rfl, rfl, rfl, rfl, rfl, rfl, rfl, rfl, rfl, rfl, rfl, rfl, rfl, rfl, rfl, rfl⟩

/-- What `drainEffect` leaves. -/
@[simp] theorem drainEffect_frame (b : ButtonId) (s : State) :
    (drainEffect b s).run = s.run ∧ (drainEffect b s).cfg = s.cfg ∧ (drainEffect b s).btnEnable = s.btnEnable ∧
    (drainEffect b s).smp = s.smp ∧ (drainEffect b s).dec = s.dec ∧ (drainEffect b s).bank = s.bank ∧
    (drainEffect b s).now = s.now ∧ (drainEffect b s).snap = s.snap ∧ (drainEffect b s).failed = s.failed ∧
    (drainEffect b s).badCmd = s.badCmd ∧ (drainEffect b s).rePending = s.rePending ∧ (drainEffect b s).hibCnt = s.hibCnt ∧
    (drainEffect b s).ser = s.ser ∧ (drainEffect b s).out = s.out ∧ (drainEffect b s).sig = s.sig ∧
    (drainEffect b s).port = s.port ∧ (drainEffect b s).env = s.env :=
  ⟨rfl, rfl, rfl, rfl, rfl, rfl, rfl, rfl, rfl, rfl, rfl, rfl, rfl, rfl, rfl, rfl, rfl⟩

/-- What `setCmdStarted` leaves. -/
@[simp] theorem setCmdStarted_frame (v : Bool) (s : State) :
    (setCmdStarted v s).run = s.run ∧ (setCmdStarted v s).cfg = s.cfg ∧ (setCmdStarted v s).btnEnable = s.btnEnable ∧
    (setCmdStarted v s).smp = s.smp ∧ (setCmdStarted v s).dec = s.dec ∧ (setCmdStarted v s).bank = s.bank ∧
    (setCmdStarted v s).now = s.now ∧ (setCmdStarted v s).snap = s.snap ∧ (setCmdStarted v s).slots = s.slots ∧
    (setCmdStarted v s).delivered = s.delivered ∧ (setCmdStarted v s).failed = s.failed ∧
    (setCmdStarted v s).badCmd = s.badCmd ∧ (setCmdStarted v s).rePending = s.rePending ∧
    (setCmdStarted v s).hibCnt = s.hibCnt ∧ (setCmdStarted v s).ser = s.ser ∧ (setCmdStarted v s).out = s.out ∧
    (setCmdStarted v s).port = s.port ∧ (setCmdStarted v s).env = s.env :=
  ⟨rfl, rfl, rfl, rfl, rfl, rfl, rfl, rfl, rfl, rfl, rfl, rfl, rfl, rfl, rfl, rfl, rfl, rfl⟩

/-- What `drain` leaves. -/
@[simp] theorem drain_frame (p : Profile) (s : State) :
    (drain p s).run = s.run ∧ (drain p s).cfg = s.cfg ∧ (drain p s).btnEnable = s.btnEnable ∧ (drain p s).smp = s.smp ∧
    (drain p s).dec = s.dec ∧ (drain p s).bank = s.bank ∧ (drain p s).now = s.now ∧ (drain p s).snap = s.snap ∧
    (drain p s).failed = s.failed ∧ (drain p s).badCmd = s.badCmd ∧ (drain p s).rePending = s.rePending ∧
    (drain p s).hibCnt = s.hibCnt ∧ (drain p s).out = s.out ∧ (drain p s).port = s.port ∧ (drain p s).env = s.env :=
  by unfold drain; split <;> simp

/-- What `timeout` leaves. -/
@[simp] theorem timeout_frame (p : Profile) (c : Option ButtonId) (s : State) :
    (timeout p c s).run = s.run ∧ (timeout p c s).cfg = s.cfg ∧ (timeout p c s).btnEnable = s.btnEnable ∧
    (timeout p c s).smp = s.smp ∧ (timeout p c s).dec = s.dec ∧ (timeout p c s).bank = s.bank ∧ (timeout p c s).now = s.now ∧
    (timeout p c s).snap = s.snap ∧ (timeout p c s).delivered = s.delivered ∧ (timeout p c s).badCmd = s.badCmd ∧
    (timeout p c s).rePending = s.rePending ∧ (timeout p c s).hibCnt = s.hibCnt ∧ (timeout p c s).ser = s.ser ∧
    (timeout p c s).out = s.out ∧ (timeout p c s).sig = s.sig ∧ (timeout p c s).port = s.port ∧
    (timeout p c s).env = s.env :=
  ⟨rfl, rfl, rfl, rfl, rfl, rfl, rfl, rfl, rfl, rfl, rfl, rfl, rfl, rfl, rfl, rfl, rfl⟩

/-- What `injector` leaves. -/
@[simp] theorem injector_frame (p : Profile) (s : State) :
    (injector p s).run = s.run ∧ (injector p s).cfg = s.cfg ∧ (injector p s).btnEnable = s.btnEnable ∧
    (injector p s).smp = s.smp ∧ (injector p s).dec = s.dec ∧ (injector p s).bank = s.bank ∧ (injector p s).now = s.now ∧
    (injector p s).snap = s.snap ∧ (injector p s).badCmd = s.badCmd ∧ (injector p s).rePending = s.rePending ∧
    (injector p s).hibCnt = s.hibCnt ∧ (injector p s).out = s.out ∧ (injector p s).port = s.port ∧
    (injector p s).env = s.env :=
  by unfold injector; simp

/-- What `countInactivity` leaves. -/
@[simp] theorem countInactivity_frame (s : State) :
    (countInactivity s).run = s.run ∧ (countInactivity s).cfg = s.cfg ∧ (countInactivity s).btnEnable = s.btnEnable ∧
    (countInactivity s).smp = s.smp ∧ (countInactivity s).dec = s.dec ∧ (countInactivity s).bank = s.bank ∧
    (countInactivity s).now = s.now ∧ (countInactivity s).snap = s.snap ∧ (countInactivity s).slots = s.slots ∧
    (countInactivity s).delivered = s.delivered ∧ (countInactivity s).failed = s.failed ∧
    (countInactivity s).badCmd = s.badCmd ∧ (countInactivity s).rePending = s.rePending ∧ (countInactivity s).ser = s.ser ∧
    (countInactivity s).out = s.out ∧ (countInactivity s).sig = s.sig ∧ (countInactivity s).port = s.port ∧
    (countInactivity s).env = s.env :=
  by unfold countInactivity; split <;> [skip; split] <;> simp

/-- What `emitKeepalive` leaves. -/
@[simp] theorem emitKeepalive_frame (p : Profile) (s : State) :
    (emitKeepalive p s).run = s.run ∧ (emitKeepalive p s).cfg = s.cfg ∧ (emitKeepalive p s).btnEnable = s.btnEnable ∧
    (emitKeepalive p s).smp = s.smp ∧ (emitKeepalive p s).dec = s.dec ∧ (emitKeepalive p s).bank = s.bank ∧
    (emitKeepalive p s).now = s.now ∧ (emitKeepalive p s).snap = s.snap ∧ (emitKeepalive p s).slots = s.slots ∧
    (emitKeepalive p s).delivered = s.delivered ∧ (emitKeepalive p s).failed = s.failed ∧
    (emitKeepalive p s).badCmd = s.badCmd ∧ (emitKeepalive p s).rePending = s.rePending ∧ (emitKeepalive p s).out = s.out ∧
    (emitKeepalive p s).port = s.port ∧ (emitKeepalive p s).env = s.env :=
  by unfold emitKeepalive; split <;> simp

/-- What `hibernate` leaves. -/
@[simp] theorem hibernate_frame (p : Profile) (s : State) :
    (hibernate p s).run = s.run ∧ (hibernate p s).cfg = s.cfg ∧ (hibernate p s).btnEnable = s.btnEnable ∧
    (hibernate p s).smp = s.smp ∧ (hibernate p s).dec = s.dec ∧ (hibernate p s).bank = s.bank ∧ (hibernate p s).now = s.now ∧
    (hibernate p s).snap = s.snap ∧ (hibernate p s).slots = s.slots ∧ (hibernate p s).delivered = s.delivered ∧
    (hibernate p s).failed = s.failed ∧ (hibernate p s).badCmd = s.badCmd ∧ (hibernate p s).rePending = s.rePending ∧
    (hibernate p s).out = s.out ∧ (hibernate p s).port = s.port ∧ (hibernate p s).env = s.env :=
  by unfold hibernate; simp

/-- What `advance` leaves. -/
@[simp] theorem advance_frame (p : Profile) (s : State) :
    (advance p s).run = s.run ∧ (advance p s).cfg = s.cfg ∧ (advance p s).btnEnable = s.btnEnable ∧
    (advance p s).smp = s.smp ∧ (advance p s).dec = s.dec ∧ (advance p s).bank = s.bank ∧ (advance p s).now = s.now ∧
    (advance p s).snap = s.snap ∧ (advance p s).slots = s.slots ∧ (advance p s).delivered = s.delivered ∧
    (advance p s).failed = s.failed ∧ (advance p s).badCmd = s.badCmd ∧ (advance p s).rePending = s.rePending ∧
    (advance p s).hibCnt = s.hibCnt ∧ (advance p s).out = s.out ∧ (advance p s).port = s.port ∧ (advance p s).env = s.env :=
  ⟨rfl, rfl, rfl, rfl, rfl, rfl, rfl, rfl, rfl, rfl, rfl, rfl, rfl, rfl, rfl, rfl, rfl⟩

/-- What `updateOutputs` leaves. -/
@[simp] theorem updateOutputs_frame (p : Profile) (s : State) :
    (updateOutputs p s).run = s.run ∧ (updateOutputs p s).cfg = s.cfg ∧ (updateOutputs p s).btnEnable = s.btnEnable ∧
    (updateOutputs p s).dec = s.dec ∧ (updateOutputs p s).bank = s.bank ∧ (updateOutputs p s).now = s.now ∧
    (updateOutputs p s).snap = s.snap ∧ (updateOutputs p s).slots = s.slots ∧ (updateOutputs p s).delivered = s.delivered ∧
    (updateOutputs p s).failed = s.failed ∧ (updateOutputs p s).badCmd = s.badCmd ∧
    (updateOutputs p s).rePending = s.rePending ∧ (updateOutputs p s).hibCnt = s.hibCnt ∧ (updateOutputs p s).ser = s.ser ∧
    (updateOutputs p s).sig = s.sig ∧ (updateOutputs p s).port = s.port ∧ (updateOutputs p s).env = s.env :=
  ⟨rfl, rfl, rfl, rfl, rfl, rfl, rfl, rfl, rfl, rfl, rfl, rfl, rfl, rfl, rfl, rfl, rfl⟩

/-- What `endTick` leaves. -/
@[simp] theorem endTick_frame (s : State) :
    (endTick s).run = s.run ∧ (endTick s).cfg = s.cfg ∧ (endTick s).btnEnable = s.btnEnable ∧ (endTick s).smp = s.smp ∧
    (endTick s).dec = s.dec ∧ (endTick s).bank = s.bank ∧ (endTick s).snap = s.snap ∧ (endTick s).slots = s.slots ∧
    (endTick s).delivered = s.delivered ∧ (endTick s).failed = s.failed ∧ (endTick s).badCmd = s.badCmd ∧
    (endTick s).rePending = s.rePending ∧ (endTick s).hibCnt = s.hibCnt ∧ (endTick s).ser = s.ser ∧ (endTick s).out = s.out ∧
    (endTick s).port = s.port ∧ (endTick s).env = s.env :=
  ⟨rfl, rfl, rfl, rfl, rfl, rfl, rfl, rfl, rfl, rfl, rfl, rfl, rfl, rfl, rfl, rfl, rfl⟩

/-- What `tickTail` leaves. -/
@[simp] theorem tickTail_frame (p : Profile) (x : Sample) (s : State) :
    (tickTail p x s).run = s.run ∧ (tickTail p x s).cfg = s.cfg ∧ (tickTail p x s).btnEnable = s.btnEnable ∧
    (tickTail p x s).dec = s.dec ∧ (tickTail p x s).bank = s.bank ∧ (tickTail p x s).snap = s.snap ∧
    (tickTail p x s).badCmd = s.badCmd ∧ (tickTail p x s).port = s.port ∧ (tickTail p x s).env = s.env :=
  by unfold tickTail; simp

end Sys2Proof.Machine
end

