-- ==== Sys2Proof/Laws/Exec.lean ====
section
/-! SUPPORT. Everything one operation can do, and everything one step can do, said once. -/

namespace Sys2Proof.Machine

/-- What a host operation that completes has done, but for the three that a later statement tells apart by their words. -/
inductive Effect : State → State → Prop
  | none (s : State) : Effect s s
  | cfg (w : Word) (s : State) : Effect s (cfgWrite w s)
  | ctrl (w : Word) (s : State) : Effect s (ctrlWrite w s)
  | status (w : Word) (s : State) : Effect s (statusWrite w s)
  | btnEnable (w : Word) (s : State) : Effect s (btnEnableWrite w s)
  | press (b : ButtonId) (s : State) : Effect s (enqueue b .pendingPress s)
  | hold (b : ButtonId) (s : State) : Effect s (enqueue b .pendingHold s)
  | release (b : ButtonId) (s : State) : Effect s (releaseCommand b s)
  | illegal (s : State) : Effect s (illegalCommand s)
  | read (v : Word) (s : State) : Effect s (answerRead v s)

/-- The four things the decoder does on an event. -/
inductive DecoderMove : (Profile → State → State) → Prop
  | noChange : DecoderMove onNoChange
  | csAssert : DecoderMove onCsAssert
  | csDeassert : DecoderMove onCsDeassert
  | bit (d : Bool) : DecoderMove (onBit d)

/-- What an operation does, if it completes: one of the shared operations of the host's, or, for a bus event, a move of the
decoder. -/
theorem exec_next {i : Instr} {s t : State} (h : exec i s = .next t) :
    Effect s t ∨ (∃ w, i = .wrDelivered w ∧ t = deliveredWrite w s) ∨ (∃ w, i = .wrFailed w ∧ t = failedWrite w s)
      ∨ (∃ w, i = .wrSnap w ∧ t = takeSnapshot s)
      ∨ ∃ e f, encode i = .busEvent e ∧ DecoderMove f ∧ decoderStep f s = .next t := by
  cases i <;> simp only [exec] at h <;>
    first
    | exact .inr (.inl ⟨_, rfl, (Host.Outcome.next.inj h).symm⟩)
    | exact .inr (.inr (.inl ⟨_, rfl, (Host.Outcome.next.inj h).symm⟩))
    | exact .inr (.inr (.inr (.inl ⟨_, rfl, (Host.Outcome.next.inj h).symm⟩)))
    | exact .inr (.inr (.inr (.inr ⟨_, _, rfl, .noChange, h⟩)))
    | exact .inr (.inr (.inr (.inr ⟨_, _, rfl, .csAssert, h⟩)))
    | exact .inr (.inr (.inr (.inr ⟨_, _, rfl, .csDeassert, h⟩)))
    | exact .inr (.inr (.inr (.inr ⟨_, _, rfl, .bit _, h⟩)))
    | (exfalso; cases h; done)
    | (obtain rfl := Host.Outcome.next.inj h; left
       first
       | exact .none _
       | exact .read _ _
       | exact .press _ _
       | exact .hold _ _
       | exact .release _ _
       | exact .illegal _
       | exact .cfg _ _
       | exact .ctrl _ _
       | exact .status _ _
       | exact .btnEnable _ _)

/-- The decoder's step, if it completes: nothing outside Running, a move of the decoder while Running. -/
theorem decoderStep_next {f : Profile → State → State} {s t : State} (h : decoderStep f s = .next t) :
    (s.run.isRunning = false ∧ t = s) ∨ ∃ p, s.run = .running p ∧ s.dec.state.settled = true ∧ t = f p s := by
  unfold decoderStep at h
  split at h
  · rename_i p hp
    split at h
    · exact .inr ⟨p, hp, ‹_›, (Host.Outcome.next.inj h).symm⟩
    · cases h
  · exact .inl ⟨by simp [*, RunState.isRunning], (Host.Outcome.next.inj h).symm⟩
  · exact .inl ⟨by simp [*, RunState.isRunning], (Host.Outcome.next.inj h).symm⟩

/-- An event word runs a move of the decoder. -/
theorem exec_busEvent (e : BitVec 5) :
    ∃ f, DecoderMove f ∧ ∀ s, exec (decode (.busEvent e)) s = decoderStep f s := by
  simp only [decode, decodeEvent]
  split_ifs
  · exact ⟨_, .csAssert, fun _ => rfl⟩
  · exact ⟨_, .csDeassert, fun _ => rfl⟩
  · exact ⟨_, .bit _, fun _ => rfl⟩
  · exact ⟨_, .noChange, fun _ => rfl⟩
  · exact ⟨_, .noChange, fun _ => rfl⟩
  · exact ⟨_, .noChange, fun _ => rfl⟩
  · exact ⟨_, .noChange, fun _ => rfl⟩

/-- A completed clock edge without reset: nothing outside Running, and while Running the phases around a move of the
decoder. -/
theorem stepTick_next {x : Sample} {s t : State} (h : stepTick x s = .next t) :
    (s.run.isRunning = false ∧ t = s)
      ∨ ∃ p f, s.run = .running p ∧ s.dec.state.settled = true ∧ DecoderMove f
        ∧ t = tickTail p x (f p (tickHead p x s)) := by
  unfold stepTick at h
  split at h
  · exact .inl ⟨by simp [*, RunState.isRunning], (Host.Outcome.next.inj h).symm⟩
  · exact .inl ⟨by simp [*, RunState.isRunning], (Host.Outcome.next.inj h).symm⟩
  · rename_i p hp
    right
    split at h
    · split at h
      · exact ⟨p, onNoChange, hp, ‹_›, .noChange, (Host.Outcome.next.inj h).symm⟩
      · rename_i hs _ e he
        obtain ⟨f, hf, hex⟩ := exec_busEvent e
        rw [hex] at h
        have hrun : (tickHead p x s).run = .running p := by simp [hp]
        have hset : (tickHead p x s).dec.state.settled = true := by simpa using hs
        simp only [decoderStep, hrun, hset, if_true, thenNext] at h
        exact ⟨p, f, hp, hs, hf, (Host.Outcome.next.inj h).symm⟩
    · cases h

/-- The next input is a clock edge. -/
def Clocked (s : State) : Prop := s.env.pending = [] ∨ ∃ x rest, s.env.pending = .clock x :: rest

/-- An outcome with `f` applied is a next state exactly where the outcome is one. -/
theorem thenNext_next {o : Host.Outcome State Fault Refusal} {f : State → State} {t : State} (h : thenNext o f = .next t) :
    ∃ u, o = .next u ∧ t = f u := by
  cases o with
  | next u => exact ⟨u, rfl, (Host.Outcome.next.inj h).symm⟩
  | fault r => cases h
  | refused r => cases h

/-- A completed transaction moved four bytes; it left the state while RST is asserted, and ran its operation otherwise. -/
theorem stepTransaction_next {n : Nat} {op : OpWord} {s t : State} (h : stepTransaction n op s = .next t) :
    n = 4 ∧ (t = s ∨ s.env.rst = false ∧ exec (decode op) s = .next t) := by
  unfold stepTransaction at h
  split at h
  · refine ⟨‹_›, ?_⟩
    split at h
    · obtain ⟨u, -, rfl⟩ := thenNext_next h
      exact .inl rfl
    · exact .inr ⟨by simpa using ‹¬s.env.rst = true›, h⟩
  · cases h

/-- A completed step, by its input: a clock edge (a reset where RST is asserted), a transaction (nothing while RST is
asserted, its operation otherwise), or a change of RST. Each runs in the state from which its input has been taken. -/
theorem step_next {s t : State} (h : step s = .next t) :
    (Clocked s ∧ ∃ x e, (s.env.rst = true ∧ t = { State.reset with env := e })
        ∨ (s.env.rst = false ∧ e.rst = false ∧ stepTick x { s with env := e } = .next t))
      ∨ (¬Clocked s ∧ ∃ e, (e.rst = s.env.rst ∨ s.env.pending.head? = some (.rst e.rst)) ∧
          (t = { s with env := e }
            ∨ s.env.rst = false ∧ ∃ op rest,
              (∀ b, op ≠ .busEvent b)
              ∧ ((∃ w, op = .hostWrite w ∧ s.env.pending = .write 4 w :: rest)
                  ∨ ∃ off, op = .hostRead off ∧ s.env.pending = .read 4 off :: rest)
              ∧ exec (decode op) { s with env := e } = .next t)) := by
  unfold step fetch at h
  split at h
  · rename_i i rest hp
    cases i with
    | clock x =>
      refine .inl ⟨.inr ⟨x, rest, hp⟩, x, { s.env with pending := rest }, ?_⟩
      simp only [runInput, stepClock] at h
      split at h
      · exact .inl ⟨‹_›, (Host.Outcome.next.inj h).symm⟩
      · rename_i hr
        have hr' : s.env.rst = false := by simpa using hr
        exact .inr ⟨hr', hr', h⟩
    | write n w =>
      refine .inr ⟨by simp [Clocked, hp], { s.env with pending := rest }, .inl rfl, ?_⟩
      obtain ⟨rfl, h | ⟨hr, h⟩⟩ := stepTransaction_next h
      · exact .inl h
      · exact .inr ⟨hr, _, rest, by simp, .inl ⟨w, rfl, hp⟩, h⟩
    | read n off =>
      refine .inr ⟨by simp [Clocked, hp], { s.env with pending := rest }, .inl rfl, ?_⟩
      obtain ⟨rfl, h | ⟨hr, h⟩⟩ := stepTransaction_next h
      · exact .inl h
      · exact .inr ⟨hr, _, rest, by simp, .inr ⟨off, rfl, hp⟩, h⟩
    | rst l =>
      refine .inr ⟨by simp [Clocked, hp], { s.env with pending := rest, rst := l }, .inr (by simp [hp]), .inl ?_⟩
      exact (Host.Outcome.next.inj h).symm
  · rename_i hp
    refine .inl ⟨.inl hp, Config.cioSample s.env.sampleIdx, { s.env with sampleIdx := s.env.sampleIdx + 1 }, ?_⟩
    simp only [runInput, stepClock] at h
    split at h
    · exact .inl ⟨‹_›, (Host.Outcome.next.inj h).symm⟩
    · rename_i hr
      have hr' : s.env.rst = false := by simpa using hr
      exact .inr ⟨hr', hr', h⟩

end Sys2Proof.Machine
end

