-- ==== Sys2Proof/Laws/Tables.lean ====
section
/-! SUPPORT. The tables with one entry per ButtonId or FieldId: reading what was written, and the codes. -/

namespace Sys2Proof

@[simp] theorem PerField.get_ofFn {α : Type} (g : FieldId → α) (f : FieldId) : (PerField.ofFn g).get f = g f := by
  cases f <;> rfl

@[simp] theorem PerButton.get_ofFn {α : Type} (g : ButtonId → α) (b : ButtonId) : (PerButton.ofFn g).get b = g b := by
  cases b <;> rfl

@[simp] theorem PerButton.get_set {α : Type} (t : PerButton α) (b c : ButtonId) (x : α) :
    (t.set b x).get c = if c = b then x else t.get c := by
  simp [PerButton.set]

theorem PerField.ext_get {α : Type} {t u : PerField α} (h : ∀ f, t.get f = u.get f) : t = u := by
  have a := h .currentTemperature
  have b := h .targetTemperature
  have c := h .heating
  have d := h .filter
  have e := h .bubbles
  have f := h .jets
  have g := h .locked
  have i := h .power
  have j := h .error
  have k := h .errorCode
  have l := h .displayText
  cases t; cases u; simp_all [PerField.get]

theorem PerButton.ext_get {α : Type} {t u : PerButton α} (h : ∀ b, t.get b = u.get b) : t = u := by
  have a := h .heater
  have b := h .filter
  have c := h .bubbles
  have d := h .jets
  have e := h .lock
  have f := h .power
  have g := h .unit
  have i := h .timer
  have j := h .up
  have k := h .down
  cases t; cases u; simp_all [PerButton.get]

theorem PerButton.set_set {α : Type} (t : PerButton α) (b : ButtonId) (x y : α) : (t.set b x).set b y = t.set b y := by
  apply PerButton.ext_get
  intro c
  simp only [PerButton.get_set]
  split <;> rfl

@[simp] theorem ButtonId.mem_all (b : ButtonId) : b ∈ ButtonId.all := by cases b <;> decide

@[simp] theorem FieldId.mem_all (f : FieldId) : f ∈ FieldId.all := by cases f <;> decide

theorem ButtonId.code_lt (b : ButtonId) : b.code < 10 := by cases b <;> decide

theorem FieldId.code_lt (f : FieldId) : f.code < 11 := by cases f <;> decide

theorem ButtonId.code_inj {b c : ButtonId} (h : b.code = c.code) : b = c := by
  revert h; cases b <;> cases c <;> decide

theorem ButtonId.exists_code {n : Nat} (h : n < 10) : ∃ b : ButtonId, b.code = n := by
  have : ∀ m : Fin 10, ∃ b ∈ ButtonId.all, b.code = m.val := by decide
  obtain ⟨b, _, hb⟩ := this ⟨n, h⟩
  exact ⟨b, hb⟩

theorem FieldId.isFlag_iff (f : FieldId) : f.isFlag = true ↔ 2 ≤ f.code ∧ f.code ≤ 8 := by cases f <;> decide

end Sys2Proof
end

