-- ==== Sys2Proof/Laws/Bits.lean ====
section
/-! SUPPORT. The bits of the operand forms: masks, halves, frames by arrival index, and field assembly. -/

namespace Sys2Proof

theorem getLsbD_lowMask (n i : Nat) : (lowMask n).getLsbD i = (decide (i < 256) && decide (i < n)) := by
  simp [lowMask, BitVec.getLsbD_ofNat, Nat.testBit_two_pow_sub_one]

@[simp] theorem getLsbD_firstBits (v : FrameBits) (n i : Nat) : (firstBits v n).getLsbD i = (decide (i < n) && v.getLsbD i) := by
  simp only [firstBits, BitVec.getLsbD_and, getLsbD_lowMask]
  by_cases h : i < 256
  · simp [h, Bool.and_comm]
  · simp [BitVec.getLsbD_of_ge v i (by omega)]

/-- The first bits of the first bits are the first bits. -/
@[simp] theorem firstBits_firstBits (v : FrameBits) (n : Nat) : firstBits (firstBits v n) n = firstBits v n := by
  apply BitVec.eq_of_getLsbD_eq
  intro i _
  simp

theorem getLsbD_setFrameBit (v : FrameBits) (i j : Nat) (b : Bool) (hi : i < 256) :
    (setFrameBit v i b).getLsbD j = if j = i then b else v.getLsbD j := by
  unfold setFrameBit
  by_cases hji : j = i
  · subst hji; cases b <;> simp [hi]
  · cases b <;> simp [BitVec.getLsbD_twoPow, hji, Ne.symm hji]
    intro hv
    exact BitVec.lt_of_getLsbD hv

theorem getLsbD_frameOfList (c : List Bool) (i : Nat) (h : c.length ≤ 256) :
    (frameOfList c).getLsbD i = c.getD i false := by
  induction c generalizing i with
  | nil => simp [frameOfList]
  | cons b bs ih =>
    have hlen : bs.length < 256 := by simpa using h
    cases i with
    | zero => cases b <;> simp [frameOfList]
    | succ i =>
      have hi := ih i (by omega)
      simp only [frameOfList, BitVec.getLsbD_or, BitVec.getLsbD_shiftLeft, List.getD_cons_succ]
      have hz : (BitVec.setWidth 256 (BitVec.ofBool b)).getLsbD (i + 1) = false := by
        cases b <;> simp
      rw [hz]
      by_cases hlt : i + 1 < 256
      · simp [hlt, hi]
      · have : bs[i]? = none := List.getElem?_eq_none (by omega)
        simp [hlt, this]

/-- A code loaded into the serializer: its bits in list order, every later bit 0. -/
theorem getLsbD_codeBits (c : List Bool) (i : Nat) (h : c.length ≤ 256) :
    (firstBits (frameOfList c) c.length).getLsbD i = c.getD i false := by
  rw [getLsbD_firstBits, getLsbD_frameOfList c i h]
  by_cases hi : i < c.length
  · simp [hi]
  · rw [List.getD_eq_getElem?_getD, List.getElem?_eq_none (by omega)]; simp

theorem getLsbD_buttonMask (g : ButtonId → Bool) (b : ButtonId) : (buttonMask g).getLsbD b.code = g b := by
  cases b <;> simp [buttonMask, ButtonId.code, ButtonId.all]

@[simp] theorem maskBit_buttonMask (g : ButtonId → Bool) (b : ButtonId) : maskBit (buttonMask g) b = g b :=
  getLsbD_buttonMask g b

theorem getLsbD_fieldMask (g : FieldId → Bool) (f : FieldId) : (fieldMask g).getLsbD f.code = g f := by
  cases f <;> simp [fieldMask, FieldId.code, FieldId.all]

/-- The mask of one button has its bit and no other. -/
theorem buttonMask_one (b : ButtonId) : buttonMask (fun c => c == b) = BitVec.twoPow 10 b.code := by
  cases b <;> decide

theorem getLsbD_wordMask (w : Word) (i : Nat) (h : i < 10) : (wordMask w).getLsbD i = w.getLsbD i := by
  simp [wordMask, h]

theorem hiWord_append_loWord (v : Word64) : hiWord v ++ loWord v = v := by
  apply BitVec.eq_of_getLsbD_eq
  intro i hi
  simp only [BitVec.getLsbD_append, hiWord, loWord, BitVec.getLsbD_extractLsb']
  split
  · simp [*]
  · have : i - 32 < 32 := by omega
    simp [this, show 32 + (i - 32) = i by omega]

/-- Field assembly reads the frame only in the field's slice. -/
theorem assemble_congr {v u : FrameBits} (o w : Nat) (order : BitOrder)
    (h : ∀ j < w, v.getLsbD (o + j) = u.getLsbD (o + j)) : assemble v o w order = assemble u o w order := by
  have : (List.range w).map (assembleTerm v o w order) = (List.range w).map (assembleTerm u o w order) := by
    apply List.map_congr_left
    intro j hj
    simp [assembleTerm, h j (List.mem_range.mp hj)]
  simp [assemble, this]

theorem BitFormula.eval_congr {v u : Nat → Bool} (h : ∀ i, v i = u i) (p : BitFormula) : p.eval v = p.eval u := by
  rw [show v = u from funext h]

end Sys2Proof
end

