-- ==== Sys2Proof/Laws/Injector.lean ====
section
/-! SUPPORT. The injector and the sources of transmissions, slot by slot and case by case. -/

namespace Sys2Proof.Machine

/-- Recording delivery failures touches FAILED alone. -/
theorem raise_delivery (who : ButtonMask) (s : State) : raise (.delivery who) s = { s with failed := s.failed ||| who } := rfl

/-- A refused command sets its FAILED bit and leaves the slot. -/
theorem enqueue_refused {b : ButtonId} {k : SlotState} {s : State} (h : acceptsCommand b s = false) :
    enqueue b k s = { s with failed := s.failed ||| BitVec.twoPow 10 b.code } := by
  simp [enqueue, h, raise, buttonMask_one]

/-- An accepted command takes its slot, with ENQ_TIME at NOW. -/
theorem enqueue_accepted {b : ButtonId} {k : SlotState} {s : State} (h : acceptsCommand b s = true) :
    enqueue b k s = { s with slots := s.slots.set b { s.slots.get b with state := k, enqTime := s.now } } := by
  simp [enqueue, h]

theorem gate_slot (s : State) (b : ButtonId) :
    (gate s).slots.get b =
      if maskBit s.btnEnable b then s.slots.get b else { s.slots.get b with state := .empty } := by
  simp [gate, raise]

theorem gate_failed (s : State) (b : ButtonId) :
    maskBit (gate s).failed b =
      (maskBit s.failed b || (!maskBit s.btnEnable b && (s.slots.get b).state.isPending)) := by
  simp [gate, raise, maskBit, getLsbD_buttonMask]

theorem expire_slot (p : Profile) (s : State) (b : ButtonId) :
    (expire p s).slots.get b =
      if holdExpired p s.now (s.slots.get b) then { s.slots.get b with state := .empty } else s.slots.get b := by
  simp [expire]

theorem timeout_slot (p : Profile) (c : Option ButtonId) (s : State) (b : ButtonId) :
    (timeout p c s).slots.get b =
      if c != some b && deliveryExpired p s.now (s.slots.get b) then { s.slots.get b with state := .empty }
      else s.slots.get b := by
  simp [timeout, raise]

theorem timeout_failed (p : Profile) (c : Option ButtonId) (s : State) (b : ButtonId) :
    maskBit (timeout p c s).failed b =
      (maskBit s.failed b || (c != some b && deliveryExpired p s.now (s.slots.get b))) := by
  simp [timeout, raise, maskBit, getLsbD_buttonMask]

/-- The grant is an eligible button, in an idle window. -/
theorem injectionSlot_some {s : State} {b : ButtonId} (h : injectionSlot s = some b) :
    idleWin s = true ∧ eligible (s.slots.get b) = true := by
  unfold injectionSlot at h
  split at h
  · exact ⟨‹_›, by simpa using List.find?_some h⟩
  · cases h

/-- The grant is the least eligible button. -/
theorem injectionSlot_eq {s : State} {b : ButtonId} (hw : idleWin s = true) (hb : eligible (s.slots.get b) = true)
    (hl : ∀ c, eligible (s.slots.get c) = true → b.code ≤ c.code) : injectionSlot s = some b := by
  have hlt : ∀ c, c.code < b.code → eligible (s.slots.get c) = false := by
    intro c hc
    cases h : eligible (s.slots.get c)
    · rfl
    · exact absurd (hl c h) (by omega)
  cases b <;> simp [injectionSlot, hw, ButtonId.all, hb] <;>
    (repeat' apply And.intro) <;> exact hlt _ (by decide)

/-- With no grant, CMD_STARTED is cleared and nothing else changes. -/
theorem drain_none {p : Profile} {s : State} (h : injectionSlot s = none) : drain p s = setCmdStarted false s := by
  simp [drain, h]

/-- A grant starts the button's transmission and moves its slot on. -/
theorem drain_some {p : Profile} {s : State} {b : ButtonId} (h : injectionSlot s = some b) :
    drain p s = setCmdStarted true (drainEffect b (startTxCode p ((p.buttonCode.get b).getD []) .cmd s)) := by
  simp [drain, h]

/-- Nothing is granted while the serializer is busy. -/
theorem injectionSlot_busy {s : State} (h : s.ser.state ≠ .idle) : injectionSlot s = none := by
  have : idleWin s = false := by simp [idleWin, h]
  simp [injectionSlot, this]

/-- What the drain does to one slot: it stays, or it is the granted one and moves on. -/
theorem drain_slot (p : Profile) (s : State) (b : ButtonId) :
    (drain p s).slots.get b =
      if injectionSlot s = some b then drainedSlot s.now (s.slots.get b) else s.slots.get b := by
  cases h : injectionSlot s with
  | none => simp [drain_none h]
  | some c =>
    rw [drain_some h]
    by_cases hc : b = c
    · subst hc; simp [drainEffect]
    · simp [drainEffect, hc, Ne.symm hc]

/-- Result bits are never cleared by the injector. -/
theorem injector_delivered (p : Profile) (s : State) (i : Nat) (h : s.delivered.getLsbD i = true) :
    (injector p s).delivered.getLsbD i = true := by
  have : ∀ u : State, u.delivered.getLsbD i = true → (drain p u).delivered.getLsbD i = true := by
    intro u hu
    cases hg : injectionSlot u with
    | none => simpa [drain_none hg] using hu
    | some b =>
      rw [drain_some hg]
      simp only [setCmdStarted_frame, drainEffect, startTxCode_frame]
      split <;> simp [hu]
  simpa [injector] using this _ (by simpa using h)

theorem injector_failed (p : Profile) (s : State) (i : Nat) (h : s.failed.getLsbD i = true) :
    (injector p s).failed.getLsbD i = true := by
  simp [injector, timeout, gate, raise, h]

end Sys2Proof.Machine
end

