-- ==== Sys2Proof/Laws/Serializer.lean ====
section
/-! SUPPORT. The serializer in a tick: a transmission in progress only advances, a free serializer stays free or starts one of the
three transmissions. -/

namespace Sys2Proof.Machine

/-- An Idle serializer does not move. -/
theorem serAdvance_idle {p : Profile} {r : Serializer} (h : r.state = .idle) : serAdvance p r = r := by
  simp [serAdvance, h]

/-- A busy serializer counts down, or takes its transition when the time has run out. -/
theorem serAdvance_busy {p : Profile} {r : Serializer} (h : r.state ≠ .idle) :
    serAdvance p r = if r.timer = 1 then serTransition p { r with timer := 0 } else { r with timer := r.timer - 1 } := by
  have : (r.timer - 1 = 0) ↔ r.timer = 1 := by
    constructor <;> intro h' <;> bv_omega
  simp only [serAdvance, h, if_false, this]

/-- No transition changes the bits or the length of a transmission. -/
theorem serAdvance_buf (p : Profile) (r : Serializer) : (serAdvance p r).buf = r.buf ∧ (serAdvance p r).len = r.len := by
  unfold serAdvance serTransition
  repeat' (first | split | exact ⟨rfl, rfl⟩)

/-- What `start_tx` loads (R231). -/
theorem startTx_ser (p : Profile) (v : FrameBits) (n : Nat) (src : SerSource) (s : State) :
    (startTx p v n src s).ser =
      { state := .lead, timer := BitVec.ofNat 32 p.tLead, idx := 0, len := BitVec.ofNat 9 n, buf := firstBits v n, src := src }
      ∧ (startTx p v n src s).sig = { s.sig with serNew := true } := ⟨rfl, rfl⟩

/-- While a transmission runs, no phase before the advance touches the serializer or marks it new (R258). -/
theorem forward_busy {p : Profile} {s : State} (h : s.ser.state ≠ .idle) :
    (forward p s).ser = s.ser ∧ (forward p s).sig.serNew = s.sig.serNew := by
  unfold forward; split
  · exact ⟨rfl, rfl⟩
  · simp [startReencode, h]

theorem injector_busy {p : Profile} {s : State} (h : s.ser.state ≠ .idle) :
    (injector p s).ser = s.ser ∧ (injector p s).sig.serNew = s.sig.serNew := by
  have hb : injectionSlot (expire p (gate s)) = none := injectionSlot_busy (by simpa using h)
  simp [injector, drain_none hb]
  rfl

theorem hibernate_busy {p : Profile} {s : State} (h : s.ser.state ≠ .idle) :
    (hibernate p s).ser = s.ser ∧ (hibernate p s).sig.serNew = s.sig.serNew := by
  simp [hibernate, emitKeepalive, h]

/-- The serializer after the phases that follow the decoder is the one phase 5 leaves. -/
theorem tickTail_ser (p : Profile) (x : Sample) (s : State) :
    (tickTail p x s).ser = (advance p (hibernate p (injector p (forward p (detectIdle p x s))))).ser := by
  simp only [tickTail, endTick_frame, updateOutputs_frame]

/-- A transmission that was in progress before the later phases advances by exactly one tick in them (R232, R240). -/
theorem tickTail_busy {p : Profile} {x : Sample} {s : State} (h : s.ser.state ≠ .idle) (hn : s.sig.serNew = false) :
    (tickTail p x s).ser = serAdvance p s.ser := by
  have h1 : (forward p (detectIdle p x s)).ser = s.ser ∧ (forward p (detectIdle p x s)).sig.serNew = false := by
    have := forward_busy (p := p) (s := detectIdle p x s) (by simpa using h)
    simpa [detectIdle, hn] using this
  have h2 := injector_busy (p := p) (s := forward p (detectIdle p x s)) (by rw [h1.1]; exact h)
  have h3 := hibernate_busy (p := p) (s := injector p (forward p (detectIdle p x s))) (by rw [h2.1, h1.1]; exact h)
  have hser : (hibernate p (injector p (forward p (detectIdle p x s)))).ser = s.ser := by rw [h3.1, h2.1, h1.1]
  have hnew : (hibernate p (injector p (forward p (detectIdle p x s)))).sig.serNew = false := by
    rw [h3.2, h2.2, h1.2]
  rw [tickTail_ser]
  simp [advance, hser, hnew]

end Sys2Proof.Machine
end

