-- ==== Sys2Proof/Laws/Tick.lean ====
section
/-! SUPPORT. A Running tick phase by phase: the move of the decoder and what it leaves, the signals that pass through the later
phases, and the fields whose value after the tick one phase alone decides. -/

namespace Sys2Proof.Machine

/-- A clock edge at the head of the input list, with RST released, is a tick. -/
theorem step_clock {s : State} {x : Sample} {rest : List Input} (hr : s.env.rst = false)
    (hp : s.env.pending = .clock x :: rest) : step s = stepTick x { s with env := { s.env with pending := rest } } := by
  simp [step, fetch, hp, runInput, stepClock, hr]

/-- A tick of a Running block completes; where no event is formed the decoder does not move. -/
theorem stepTick_running {x : Sample} {s : State} {p : Profile} (hr : s.run = .running p)
    (hs : s.dec.state.settled = true) :
    ∃ f, DecoderMove f ∧ ((tickHead p x s).sig.event = none → f = onNoChange)
      ∧ stepTick x s = .next (tickTail p x (f p (tickHead p x s))) := by
  unfold stepTick
  simp only [hr, hs, if_true]
  cases he : (tickHead p x s).sig.event with
  | none => exact ⟨_, .noChange, fun _ => rfl, rfl⟩
  | some e =>
    obtain ⟨f, hf, hex⟩ := exec_busEvent e
    refine ⟨f, hf, by simp, ?_⟩
    simp [hex, decoderStep, hr, hs, thenNext]

/-- A move of the decoder ends in a state of a tick boundary. -/
theorem DecoderMove.settled {f : Profile → State → State} (h : DecoderMove f) (p : Profile) {s : State}
    (hs : s.dec.state.settled = true) : (f p s).dec.state.settled = true := by
  cases h with
  | noChange => exact hs
  | csAssert => rfl
  | csDeassert => unfold onCsDeassert; split <;> first | rfl | exact hs
  | bit d =>
    unfold onBit; split
    · unfold captureBit; split
      · unfold completeFrame; split <;> rfl
      · exact hs
    all_goals exact hs

/-- What a move of the decoder leaves: everything but the decoder, the live bank and FRAME_END. -/
theorem DecoderMove.frame {f : Profile → State → State} (h : DecoderMove f) (p : Profile) (s : State) :
    f p s = { s with dec := (f p s).dec, bank := (f p s).bank, sig := { s.sig with frameEnd := (f p s).sig.frameEnd } } := by
  cases h with
  | noChange => rfl
  | csAssert => rfl
  | csDeassert => unfold onCsDeassert; split <;> rfl
  | bit d =>
    unfold onBit; split
    · unfold captureBit; split
      · unfold completeFrame; split <;> rfl
      · rfl
    all_goals rfl

/-- The same field by field. -/
theorem DecoderMove.fields {f : Profile → State → State} (h : DecoderMove f) (p : Profile) (s : State) :
    (f p s).run = s.run ∧ (f p s).cfg = s.cfg ∧ (f p s).btnEnable = s.btnEnable ∧ (f p s).smp = s.smp ∧
    (f p s).now = s.now ∧ (f p s).snap = s.snap ∧ (f p s).slots = s.slots ∧ (f p s).delivered = s.delivered ∧
    (f p s).failed = s.failed ∧ (f p s).badCmd = s.badCmd ∧ (f p s).rePending = s.rePending ∧
    (f p s).hibCnt = s.hibCnt ∧ (f p s).ser = s.ser ∧ (f p s).out = s.out ∧ (f p s).port = s.port ∧
    (f p s).env = s.env := by
  have e := h.frame p s
  generalize f p s = u at e
  rw [e]
  exact ⟨rfl, rfl, rfl, rfl, rfl, rfl, rfl, rfl, rfl, rfl, rfl, rfl, rfl, rfl, rfl, rfl⟩

/-- The signals after phases 2 to 4 that are still the sampler's and phase 1's. -/
theorem forward_sig (p : Profile) (s : State) :
    (forward p s).sig.idleLine = s.sig.idleLine ∧ (forward p s).sig.activity = s.sig.activity
      ∧ (forward p s).sig.cmdStarted = s.sig.cmdStarted ∧ (forward p s).sig.masked = s.sig.masked := by
  unfold forward; split
  · exact ⟨rfl, rfl, rfl, rfl⟩
  · unfold startReencode oweReencode; split <;> split <;> exact ⟨rfl, rfl, rfl, rfl⟩

theorem drain_sig (p : Profile) (s : State) :
    (drain p s).sig.idleLine = s.sig.idleLine ∧ (drain p s).sig.activity = s.sig.activity
      ∧ (drain p s).sig.masked = s.sig.masked := by
  unfold drain; split <;> exact ⟨rfl, rfl, rfl⟩

theorem injector_sig (p : Profile) (s : State) :
    (injector p s).sig.idleLine = s.sig.idleLine ∧ (injector p s).sig.activity = s.sig.activity
      ∧ (injector p s).sig.masked = s.sig.masked := by
  have h := drain_sig p (expire p (gate s))
  simpa [injector] using h

theorem hibernate_sig (p : Profile) (s : State) :
    (hibernate p s).sig.idleLine = s.sig.idleLine ∧ (hibernate p s).sig.activity = s.sig.activity
      ∧ (hibernate p s).sig.masked = s.sig.masked := by
  unfold hibernate emitKeepalive countInactivity
  split <;> split <;> (try split) <;> exact ⟨rfl, rfl, rfl⟩

/-- Phase 1 up to the event in a masked tick (R121, R127, R268): the sample is discarded, and the tick counts as quiet. -/
theorem tickHead_of_masked {s : State} (p : Profile) (x : Sample) (hm : (isFourWire s && s.out.dspOe) = true) :
    tickHead p x s =
      { s with
        smp := { s.smp with prevValid := false, quietCnt := satInc32 s.smp.quietCnt }
        sig := { TickSignals.none with masked := true } } := by
  simp only [tickHead, sampler, beginTick, hm]; rfl

/-- Phase 1 up to the event in a history-load tick (R122, R127): the sample is loaded, and the tick counts as quiet. -/
theorem tickHead_of_history {s : State} (p : Profile) (x : Sample) (hm : (isFourWire s && s.out.dspOe) = false)
    (hv : s.smp.prevValid = false) :
    tickHead p x s =
      { s with
        smp := { s.smp with prevValid := true, prev := x, quietCnt := satInc32 s.smp.quietCnt }
        sig := TickSignals.none } := by
  simp only [tickHead, sampler, beginTick, hm, hv]; rfl

/-- Phase 1 up to the event with a previous sample and a changed line (R125 to R128): the quiet count and every EMITTED are 0. -/
theorem tickHead_of_activity {s : State} (p : Profile) (x : Sample) (hm : (isFourWire s && s.out.dspOe) = false)
    (hv : s.smp.prevValid = true) (ha : lineChanged s.smp.prev x = true) :
    tickHead p x s =
      { s with
        smp := { s.smp with prev := x, quietCnt := 0 }
        slots := .ofFn fun b => { s.slots.get b with emitted := false }
        sig := { TickSignals.none with event := some (eventWord p s.smp.prev x), activity := true } } := by
  simp only [tickHead, sampler, beginTick, hm, hv, sampleEvent, ha]; rfl

/-- Phase 1 up to the event with a previous sample and no changed line (R125 to R128): the tick counts as quiet. -/
theorem tickHead_of_quiet {s : State} (p : Profile) (x : Sample) (hm : (isFourWire s && s.out.dspOe) = false)
    (hv : s.smp.prevValid = true) (ha : lineChanged s.smp.prev x = false) :
    tickHead p x s =
      { s with
        smp := { s.smp with prev := x, quietCnt := satInc32 s.smp.quietCnt }
        sig := { TickSignals.none with event := some (eventWord p s.smp.prev x) } } := by
  simp only [tickHead, sampler, beginTick, hm, hv, sampleEvent, ha]; rfl

/-- No transmission has started when phase 1 ends. -/
@[simp] theorem tickHead_serNew (p : Profile) (x : Sample) (s : State) : (tickHead p x s).sig.serNew = false := by
  cases hm : isFourWire s && s.out.dspOe
  · cases hv : s.smp.prevValid
    · rw [tickHead_of_history p x hm hv]; rfl
    · cases ha : lineChanged s.smp.prev x
      · rw [tickHead_of_quiet p x hm hv ha]; rfl
      · rw [tickHead_of_activity p x hm hv ha]; rfl
  · rw [tickHead_of_masked p x hm]; rfl

/-- A line changed between two samples exactly where they differ (R126). -/
theorem lineChanged_iff (prev cur : Sample) : lineChanged prev cur = true ↔ prev ≠ cur := by
  obtain ⟨a, b, c⟩ := prev
  obtain ⟨d, e, f⟩ := cur
  simp only [lineChanged, ne_eq, Sample.mk.injEq]
  revert a b c d e f; decide

/-- The sampler changes no slot but for its window flag (R127). -/
theorem tickHead_slot (p : Profile) (x : Sample) (s : State) (b : ButtonId) :
    (tickHead p x s).slots.get b = { s.slots.get b with emitted := ((tickHead p x s).slots.get b).emitted } := by
  have h : ∀ u : State, (countQuiet u).slots.get b = { u.slots.get b with emitted := ((countQuiet u).slots.get b).emitted } := by
    intro u; unfold countQuiet; split <;> simp
  have hs : (tickHead p x s).slots.get b =
      { s.slots.get b with emitted := ((tickHead p x s).slots.get b).emitted } := by
    simp only [tickHead, sampler]
    split
    · rw [h]; simp
    · split <;> (rw [h]; simp)
  exact hs

/-- No signal crosses the end of a tick (R47). -/
@[simp] theorem tickTail_sig (p : Profile) (x : Sample) (s : State) : (tickTail p x s).sig = TickSignals.none := rfl

/-- Time counts in every Running tick (R251). -/
@[simp] theorem tickTail_now (p : Profile) (x : Sample) (s : State) : (tickTail p x s).now = s.now + 1 := by
  simp [tickTail, endTick]

/-- The decoder and the bank come out of the later phases as the decoder left them; the sampler's state changes in BUS_IDLE. -/
theorem tickTail_smp (p : Profile) (x : Sample) (s : State) :
    (tickTail p x s).smp =
      { s.smp with
        busIdle := !s.sig.masked && !p.asserted x.cs && decide (p.idleGap ≤ s.smp.quietCnt.toNat) } := by
  have h : ∀ u : State, (hibernate p (injector p (forward p u))).sig.idleLine = u.sig.idleLine := fun u => by
    rw [(hibernate_sig _ _).1, (injector_sig _ _).1, (forward_sig _ _).1]
  have ha : ∀ u : State, (advance p u).sig.idleLine = u.sig.idleLine := fun _ => rfl
  simp only [tickTail, endTick, updateOutputs, ha, h]
  simp [detectIdle]

/-- The outputs follow the serializer as phase 5 leaves it (R266, R267, R292). -/
theorem tickTail_out (p : Profile) (x : Sample) (s : State) :
    (tickTail p x s).out =
      { dspCs := serCs p (tickTail p x s).ser, dspClk := serClk p (tickTail p x s).ser,
        dspDat := serDat (tickTail p x s).ser,
        dspOe := if s.cfg.topology = 0 then (tickTail p x s).ser.state != .idle else true, audioMute := false } := by
  have h : ∀ u : State, (endTick (updateOutputs p u)).ser = u.ser := fun _ => rfl
  simp only [tickTail, h]
  simp [endTick, updateOutputs, isFourWire]

end Sys2Proof.Machine
end

