-- ==== Sys2Proof/Laws/Arbitration.lean ====
section
/-! SUPPORT. What each phase of a Running tick does to a serializer that it finds Idle: it leaves it, or starts one transmission
(R257, R258); and the slots that a tick leaves. -/

namespace Sys2Proof.Machine

/-- A transmission of the source `src` started in this tick (R231). -/
def Started (p : Profile) (src : SerSource) (s : State) : Prop :=
  s.ser.state = .lead ∧ s.ser.timer = BitVec.ofNat 32 p.tLead ∧ s.ser.idx = 0 ∧ s.ser.src = src ∧ s.sig.serNew = true

theorem Started.busy {p : Profile} {src : SerSource} {s : State} (h : Started p src s) : s.ser.state ≠ .idle := by
  rw [h.1]; exact SerState.noConfusion

theorem Started.injector {p : Profile} {src : SerSource} {s : State} (h : Started p src s) :
    Started p src (injector p s) := by
  have := injector_busy (p := p) h.busy
  unfold Started; rw [this.1, this.2]; exact h

theorem Started.hibernate {p : Profile} {src : SerSource} {s : State} (h : Started p src s) :
    Started p src (hibernate p s) := by
  have := hibernate_busy (p := p) h.busy
  unfold Started; rw [this.1, this.2]; exact h

/-- Noting that a re-encode is owed changes nothing else, and forgets none owed from before (R260). -/
theorem oweReencode_fields (s : State) :
    (oweReencode s).ser = s.ser ∧ (oweReencode s).sig = s.sig
      ∧ ((oweReencode s).rePending = false → s.rePending = false) := by
  unfold oweReencode
  split
  · exact ⟨rfl, rfl, fun h => by cases h⟩
  · exact ⟨rfl, rfl, id⟩

/-- Phase 2 leaves a free serializer, with no re-encode owed from before in a 6-wire topology, or starts the re-encode. -/
theorem forward_free {p : Profile} {s : State} (h : s.ser.state = .idle) :
    ((forward p s).ser = s.ser ∧ (forward p s).sig.serNew = s.sig.serNew ∧ (s.cfg.topology = 0 ∨ s.rePending = false))
      ∨ Started p .re (forward p s) := by
  obtain ⟨h1, h2, h3⟩ := oweReencode_fields s
  unfold forward
  split
  · rename_i h4
    rw [isFourWire, beq_iff_eq] at h4
    exact .inl ⟨rfl, rfl, .inl h4⟩
  · unfold startReencode
    split
    · exact .inr ⟨rfl, rfl, rfl, rfl, rfl⟩
    · rename_i hn
      rw [h1, h] at hn
      exact .inl ⟨h1, by rw [h2], .inr (h3 (by simpa using hn))⟩

/-- Phase 3 leaves a free serializer, granting no slot, or starts the granted button's code. -/
theorem injector_free (p : Profile) (s : State) :
    ((injector p s).ser = s.ser ∧ (injector p s).sig.serNew = s.sig.serNew ∧ injectionSlot (expire p (gate s)) = none)
      ∨ Started p .cmd (injector p s) := by
  cases hg : injectionSlot (expire p (gate s)) with
  | none => left; simp [injector, hg, drain_none hg]; rfl
  | some b => right; simp only [injector, hg, drain_some hg]; exact ⟨rfl, rfl, rfl, rfl, rfl⟩

/-- Phase 4 leaves the serializer, or finds it Idle with the CIO bus idle and starts the keep-alive. -/
theorem hibernate_free (p : Profile) (s : State) :
    ((hibernate p s).ser = s.ser ∧ (hibernate p s).sig.serNew = s.sig.serNew)
      ∨ (Started p .ka (hibernate p s) ∧ s.ser.state = .idle ∧ s.sig.idleLine = true) := by
  unfold hibernate emitKeepalive
  split
  · rename_i h
    simp only [Bool.and_eq_true, beq_iff_eq] at h
    exact .inr ⟨⟨rfl, rfl, rfl, rfl, rfl⟩, by simpa using h.1.2, by simpa using h.2⟩
  · exact .inl (by simp)

/-- Where an idle window grants no slot, every slot the injector leaves is Empty, or a hold that has emitted in this window. -/
theorem injector_slot_of_no_grant {p : Profile} {s : State} (b : ButtonId) (hw : idleWin (expire p (gate s)) = true)
    (hn : injectionSlot (expire p (gate s)) = none) :
    ((injector p s).slots.get b).state = .empty
      ∨ (((injector p s).slots.get b).state = .holding ∧ ((injector p s).slots.get b).emitted = true) := by
  have he : eligible ((expire p (gate s)).slots.get b) = false := by
    unfold injectionSlot at hn
    rw [hw, if_pos rfl, List.find?_eq_none] at hn
    simpa using hn b (by cases b <;> decide)
  have hs : (injector p s).slots.get b = (timeout p none (setCmdStarted false (expire p (gate s)))).slots.get b := by
    simp [injector, hn, drain_none hn]
  rw [hs, timeout_slot]
  split
  · exact .inl rfl
  · change ((expire p (gate s)).slots.get b).state = _
      ∨ ((expire p (gate s)).slots.get b).state = _ ∧ ((expire p (gate s)).slots.get b).emitted = _
    unfold eligible at he
    split at he <;> simp_all

/-- The slots after a tick are those the injector leaves. -/
theorem tickTail_slots (p : Profile) (x : Sample) (s : State) :
    (tickTail p x s).slots = (injector p (forward p (detectIdle p x s))).slots := by
  have h : ∀ u : State, (hibernate p u).slots = u.slots := fun u => by
    unfold hibernate emitKeepalive countInactivity
    split <;> split <;> (try split) <;> rfl
  simp only [tickTail, endTick, updateOutputs, advance, h]

/-- A transmission started in a tick is not advanced in it (R232). -/
theorem tickTail_started {p : Profile} {x : Sample} {s : State} {src : SerSource}
    (h : Started p src (hibernate p (injector p (forward p (detectIdle p x s))))) :
    (tickTail p x s).ser = (hibernate p (injector p (forward p (detectIdle p x s)))).ser := by
  rw [tickTail_ser]; simp only [advance, h.2.2.2.2, if_true]

end Sys2Proof.Machine
end

