-- ==== Sys2Proof/Laws/Formula.lean ====
section
/-! SUPPORT. Holding a profile's predicates as formulas loses nothing (log 6): every predicate on a frame, and every predicate on a
field's pattern, is the value of some formula. -/

namespace Sys2Proof

/-- Every predicate that reads only the bits below `n` is some formula's value. -/
theorem BitFormula.exists_eval (n : Nat) (g : (Nat → Bool) → Bool)
    (hg : ∀ u v : Nat → Bool, (∀ i < n, u i = v i) → g u = g v) : ∃ φ : BitFormula, ∀ v, φ.eval v = g v := by
  induction n generalizing g with
  | zero => exact ⟨.const (g fun _ => false), fun v => hg _ _ (by omega)⟩
  | succ n ih =>
    have half (b : Bool) : ∃ φ : BitFormula, ∀ v, φ.eval v = g (Function.update v n b) := by
      refine ih (fun v => g (Function.update v n b)) fun u v huv => hg _ _ fun i hi => ?_
      by_cases h : i = n
      · simp [h]
      · simpa [Function.update_of_ne h] using huv i (by omega)
    obtain ⟨φ, hφ⟩ := half true
    obtain ⟨ψ, hψ⟩ := half false
    refine ⟨.xor (.and (.bit n) φ) (.and (.xor (.const true) (.bit n)) ψ), fun v => ?_⟩
    have hv : g v = g (Function.update v n (v n)) := by simp
    cases h : v n <;> rw [hv, h] <;> simp [BitFormula.eval, hφ, hψ, h]

/-- Every checksum predicate on a frame of `MAX_FRAME_BITS` bits is some formula's value. -/
theorem BitFormula.represents_frame (g : FrameBits → Bool) : ∃ φ : BitFormula, ∀ v, (φ.eval fun i => v.getLsbD i) = g v := by
  obtain ⟨φ, hφ⟩ := BitFormula.exists_eval 256 (fun u => g (BitVec.ofFnLE fun i : Fin 256 => u i)) (by
    intro u v h
    have : (fun i : Fin 256 => u i) = fun i : Fin 256 => v i := funext fun i => h i i.isLt
    simp only [this])
  refine ⟨φ, fun v => ?_⟩
  rw [hφ]
  congr 1
  apply BitVec.eq_of_getLsbD_eq
  intro i hi
  simp [hi]

/-- Every recognition predicate on a 64-bit pattern is some formula's value. -/
theorem BitFormula.represents_field (g : Word64 → Bool) : ∃ φ : BitFormula, ∀ v, (φ.eval fun i => v.getLsbD i) = g v := by
  obtain ⟨φ, hφ⟩ := BitFormula.exists_eval 64 (fun u => g (BitVec.ofFnLE fun i : Fin 64 => u i)) (by
    intro u v h
    have : (fun i : Fin 64 => u i) = fun i : Fin 64 => v i := funext fun i => h i i.isLt
    simp only [this])
  refine ⟨φ, fun v => ?_⟩
  rw [hφ]
  congr 1
  apply BitVec.eq_of_getLsbD_eq
  intro i hi
  simp [hi]

end Sys2Proof
end

