-- ==== Sys2Proof/Laws/PerInstr.lean ====
section
/-! SUPPORT. The encoder against `spec/opcode_table.json`, row by row: the encoding of every well-formed instruction carries the
bits its row fixes. `opcodeRow` repeats the table's masks and matches as they stand there. -/

namespace Sys2Proof.Laws.EncodesRow

/-- The mask and the match of each row of `spec/opcode_table.json`. -/
def opcodeRow : Instr → Nat × Nat
  | .wrCfg _ => (0xFFF00000000, 0x00000000000)
  | .wrCtrlStart _ => (0xFFF00000001, 0x00400000001)
  | .wrCtrlNoStart _ => (0xFFF00000001, 0x00400000000)
  | .wrStatus _ => (0xFFF00000000, 0x00800000000)
  | .wrBtnEnable _ => (0xFFF00000000, 0x01400000000)
  | .pressHeater => (0xFFFFFFFFFFF, 0x01800000000)
  | .pressFilter => (0xFFFFFFFFFFF, 0x01800000001)
  | .pressBubbles => (0xFFFFFFFFFFF, 0x01800000002)
  | .pressJets => (0xFFFFFFFFFFF, 0x01800000003)
  | .pressLock => (0xFFFFFFFFFFF, 0x01800000004)
  | .pressPower => (0xFFFFFFFFFFF, 0x01800000005)
  | .pressUnit => (0xFFFFFFFFFFF, 0x01800000006)
  | .pressTimer => (0xFFFFFFFFFFF, 0x01800000007)
  | .pressUp => (0xFFFFFFFFFFF, 0x01800000008)
  | .pressDown => (0xFFFFFFFFFFF, 0x01800000009)
  | .holdHeater => (0xFFFFFFFFFFF, 0x01800000010)
  | .holdFilter => (0xFFFFFFFFFFF, 0x01800000011)
  | .holdBubbles => (0xFFFFFFFFFFF, 0x01800000012)
  | .holdJets => (0xFFFFFFFFFFF, 0x01800000013)
  | .holdLock => (0xFFFFFFFFFFF, 0x01800000014)
  | .holdPower => (0xFFFFFFFFFFF, 0x01800000015)
  | .holdUnit => (0xFFFFFFFFFFF, 0x01800000016)
  | .holdTimer => (0xFFFFFFFFFFF, 0x01800000017)
  | .holdUp => (0xFFFFFFFFFFF, 0x01800000018)
  | .holdDown => (0xFFFFFFFFFFF, 0x01800000019)
  | .releaseHeater => (0xFFFFFFFFFFF, 0x01800000020)
  | .releaseFilter => (0xFFFFFFFFFFF, 0x01800000021)
  | .releaseBubbles => (0xFFFFFFFFFFF, 0x01800000022)
  | .releaseJets => (0xFFFFFFFFFFF, 0x01800000023)
  | .releaseLock => (0xFFFFFFFFFFF, 0x01800000024)
  | .releasePower => (0xFFFFFFFFFFF, 0x01800000025)
  | .releaseUnit => (0xFFFFFFFFFFF, 0x01800000026)
  | .releaseTimer => (0xFFFFFFFFFFF, 0x01800000027)
  | .releaseUp => (0xFFFFFFFFFFF, 0x01800000028)
  | .releaseDown => (0xFFFFFFFFFFF, 0x01800000029)
  | .wrCmdIllegalAction3 _ => (0xFFFFFFFFFF0, 0x01800000030)
  | .wrCmdIllegalButton10 _ _ => (0xFFFFFFFFFCE, 0x0180000000A)
  | .wrCmdIllegalButton12 _ _ => (0xFFFFFFFFFCC, 0x0180000000C)
  | .wrCmdIllegalBit6 _ => (0xFFF00000040, 0x01800000040)
  | .wrCmdIllegalBit7 _ => (0xFFF00000080, 0x01800000080)
  | .wrCmdIllegalBit8 _ => (0xFFF00000100, 0x01800000100)
  | .wrCmdIllegalBit9 _ => (0xFFF00000200, 0x01800000200)
  | .wrCmdIllegalBit10 _ => (0xFFF00000400, 0x01800000400)
  | .wrCmdIllegalBit11 _ => (0xFFF00000800, 0x01800000800)
  | .wrCmdIllegalBit12 _ => (0xFFF00001000, 0x01800001000)
  | .wrCmdIllegalBit13 _ => (0xFFF00002000, 0x01800002000)
  | .wrCmdIllegalBit14 _ => (0xFFF00004000, 0x01800004000)
  | .wrCmdIllegalBit15 _ => (0xFFF00008000, 0x01800008000)
  | .wrCmdIllegalBit16 _ => (0xFFF00010000, 0x01800010000)
  | .wrCmdIllegalBit17 _ => (0xFFF00020000, 0x01800020000)
  | .wrCmdIllegalBit18 _ => (0xFFF00040000, 0x01800040000)
  | .wrCmdIllegalBit19 _ => (0xFFF00080000, 0x01800080000)
  | .wrCmdIllegalBit20 _ => (0xFFF00100000, 0x01800100000)
  | .wrCmdIllegalBit21 _ => (0xFFF00200000, 0x01800200000)
  | .wrCmdIllegalBit22 _ => (0xFFF00400000, 0x01800400000)
  | .wrCmdIllegalBit23 _ => (0xFFF00800000, 0x01800800000)
  | .wrCmdIllegalBit24 _ => (0xFFF01000000, 0x01801000000)
  | .wrCmdIllegalBit25 _ => (0xFFF02000000, 0x01802000000)
  | .wrCmdIllegalBit26 _ => (0xFFF04000000, 0x01804000000)
  | .wrCmdIllegalBit27 _ => (0xFFF08000000, 0x01808000000)
  | .wrCmdIllegalBit28 _ => (0xFFF10000000, 0x01810000000)
  | .wrCmdIllegalBit29 _ => (0xFFF20000000, 0x01820000000)
  | .wrCmdIllegalBit30 _ => (0xFFF40000000, 0x01840000000)
  | .wrCmdIllegalBit31 _ => (0xFFF80000000, 0x01880000000)
  | .wrDelivered _ => (0xFFF00000000, 0x02400000000)
  | .wrFailed _ => (0xFFF00000000, 0x02800000000)
  | .wrSnap _ => (0xFFF00000000, 0x02C00000000)
  | .wrInvalidCountIgnored _ => (0xFFF00000000, 0x00C00000000)
  | .wrErrCauseIgnored _ => (0xFFF00000000, 0x01000000000)
  | .wrSlotPendingIgnored _ => (0xFFF00000000, 0x01C00000000)
  | .wrSlotHoldingIgnored _ => (0xFFF00000000, 0x02000000000)
  | .wrSnapNowLoIgnored _ => (0xFFF00000000, 0x03000000000)
  | .wrSnapNowHiIgnored _ => (0xFFF00000000, 0x03400000000)
  | .wrSnapLastUpdateLoIgnored _ => (0xFFF00000000, 0x03800000000)
  | .wrSnapLastUpdateHiIgnored _ => (0xFFF00000000, 0x03C00000000)
  | .wrSnapValidIgnored _ => (0xFFF00000000, 0x04000000000)
  | .wrSnapFieldLo0Ignored _ => (0xFFF00000000, 0x08000000000)
  | .wrSnapFieldHi0Ignored _ => (0xFFF00000000, 0x08400000000)
  | .wrSnapFieldLo1Ignored _ => (0xFFF00000000, 0x08800000000)
  | .wrSnapFieldHi1Ignored _ => (0xFFF00000000, 0x08C00000000)
  | .wrSnapFieldLo2Ignored _ => (0xFFF00000000, 0x09000000000)
  | .wrSnapFieldHi2Ignored _ => (0xFFF00000000, 0x09400000000)
  | .wrSnapFieldLo3Ignored _ => (0xFFF00000000, 0x09800000000)
  | .wrSnapFieldHi3Ignored _ => (0xFFF00000000, 0x09C00000000)
  | .wrSnapFieldLo4Ignored _ => (0xFFF00000000, 0x0A000000000)
  | .wrSnapFieldHi4Ignored _ => (0xFFF00000000, 0x0A400000000)
  | .wrSnapFieldLo5Ignored _ => (0xFFF00000000, 0x0A800000000)
  | .wrSnapFieldHi5Ignored _ => (0xFFF00000000, 0x0AC00000000)
  | .wrSnapFieldLo6Ignored _ => (0xFFF00000000, 0x0B000000000)
  | .wrSnapFieldHi6Ignored _ => (0xFFF00000000, 0x0B400000000)
  | .wrSnapFieldLo7Ignored _ => (0xFFF00000000, 0x0B800000000)
  | .wrSnapFieldHi7Ignored _ => (0xFFF00000000, 0x0BC00000000)
  | .wrSnapFieldLo8Ignored _ => (0xFFF00000000, 0x0C000000000)
  | .wrSnapFieldHi8Ignored _ => (0xFFF00000000, 0x0C400000000)
  | .wrSnapFieldLo9Ignored _ => (0xFFF00000000, 0x0C800000000)
  | .wrSnapFieldHi9Ignored _ => (0xFFF00000000, 0x0CC00000000)
  | .wrSnapFieldLo10Ignored _ => (0xFFF00000000, 0x0D000000000)
  | .wrSnapFieldHi10Ignored _ => (0xFFF00000000, 0x0D400000000)
  | .wrReserved044 _ => (0xFFF00000000, 0x04400000000)
  | .rdReserved044 => (0xFFF, 0x044)
  | .wrReserved048 _ _ => (0xFFB00000000, 0x04800000000)
  | .rdReserved048 _ => (0xFFB, 0x048)
  | .wrReserved050 _ _ => (0xFF300000000, 0x05000000000)
  | .rdReserved050 _ => (0xFF3, 0x050)
  | .wrReserved060 _ _ => (0xFE300000000, 0x06000000000)
  | .rdReserved060 _ => (0xFE3, 0x060)
  | .wrReserved0D8 _ _ => (0xFFB00000000, 0x0D800000000)
  | .rdReserved0D8 _ => (0xFFB, 0x0D8)
  | .wrReserved0E0 _ _ => (0xFE300000000, 0x0E000000000)
  | .rdReserved0E0 _ => (0xFE3, 0x0E0)
  | .wrReserved100 _ _ => (0xF0300000000, 0x10000000000)
  | .rdReserved100 _ => (0xF03, 0x100)
  | .wrReserved200 _ _ => (0xE0300000000, 0x20000000000)
  | .rdReserved200 _ => (0xE03, 0x200)
  | .wrReserved400 _ _ => (0xC0300000000, 0x40000000000)
  | .rdReserved400 _ => (0xC03, 0x400)
  | .wrReserved800 _ _ => (0x80300000000, 0x80000000000)
  | .rdReserved800 _ => (0x803, 0x800)
  | .wrMisalignedOff0 _ _ => (0x00100000000, 0x00100000000)
  | .rdMisalignedOff0 _ => (0x001, 0x001)
  | .wrMisalignedOff1 _ _ => (0x00200000000, 0x00200000000)
  | .rdMisalignedOff1 _ => (0x002, 0x002)
  | .rdCfg => (0xFFF, 0x000)
  | .rdCtrl => (0xFFF, 0x004)
  | .rdStatus => (0xFFF, 0x008)
  | .rdInvalidCount => (0xFFF, 0x00C)
  | .rdErrCause => (0xFFF, 0x010)
  | .rdBtnEnable => (0xFFF, 0x014)
  | .rdCmd => (0xFFF, 0x018)
  | .rdSlotPending => (0xFFF, 0x01C)
  | .rdSlotHolding => (0xFFF, 0x020)
  | .rdDelivered => (0xFFF, 0x024)
  | .rdFailed => (0xFFF, 0x028)
  | .rdSnap => (0xFFF, 0x02C)
  | .rdSnapNowLo => (0xFFF, 0x030)
  | .rdSnapNowHi => (0xFFF, 0x034)
  | .rdSnapLastUpdateLo => (0xFFF, 0x038)
  | .rdSnapLastUpdateHi => (0xFFF, 0x03C)
  | .rdSnapValid => (0xFFF, 0x040)
  | .rdSnapFieldLo0 => (0xFFF, 0x080)
  | .rdSnapFieldHi0 => (0xFFF, 0x084)
  | .rdSnapFieldLo1 => (0xFFF, 0x088)
  | .rdSnapFieldHi1 => (0xFFF, 0x08C)
  | .rdSnapFieldLo2 => (0xFFF, 0x090)
  | .rdSnapFieldHi2 => (0xFFF, 0x094)
  | .rdSnapFieldLo3 => (0xFFF, 0x098)
  | .rdSnapFieldHi3 => (0xFFF, 0x09C)
  | .rdSnapFieldLo4 => (0xFFF, 0x0A0)
  | .rdSnapFieldHi4 => (0xFFF, 0x0A4)
  | .rdSnapFieldLo5 => (0xFFF, 0x0A8)
  | .rdSnapFieldHi5 => (0xFFF, 0x0AC)
  | .rdSnapFieldLo6 => (0xFFF, 0x0B0)
  | .rdSnapFieldHi6 => (0xFFF, 0x0B4)
  | .rdSnapFieldLo7 => (0xFFF, 0x0B8)
  | .rdSnapFieldHi7 => (0xFFF, 0x0BC)
  | .rdSnapFieldLo8 => (0xFFF, 0x0C0)
  | .rdSnapFieldHi8 => (0xFFF, 0x0C4)
  | .rdSnapFieldLo9 => (0xFFF, 0x0C8)
  | .rdSnapFieldHi9 => (0xFFF, 0x0CC)
  | .rdSnapFieldLo10 => (0xFFF, 0x0D0)
  | .rdSnapFieldHi10 => (0xFFF, 0x0D4)
  | .idleLine _ _ _ => (0x14, 0x00)
  | .csAssert _ _ _ => (0x14, 0x04)
  | .csDeassert _ _ _ => (0x14, 0x10)
  | .bit _ => (0x1E, 0x16)
  | .heldInactive _ => (0x1E, 0x14)
  | .heldReturn _ => (0x1E, 0x1C)
  | .heldActive _ => (0x1E, 0x1E)

/-- The bits of an operation word under a row's mask are the row's match. -/
def fits (row : Nat × Nat) : OpWord → Bool
  | .hostWrite t => t &&& BitVec.ofNat 44 row.1 == BitVec.ofNat 44 row.2
  | .hostRead off => off &&& BitVec.ofNat 12 row.1 == BitVec.ofNat 12 row.2
  | .busEvent e => e &&& BitVec.ofNat 5 row.1 == BitVec.ofNat 5 row.2

/-- A well-formed instruction's encoding lies in its row of the opcode table. -/
def Statement (i : Instr) : Prop := i.wf = true → fits (opcodeRow i) (encode i) = true

/-- A write's value under a mask, the offset's part and the data's part. -/
theorem fits_write {off m v : Offset} {w n u : Word} {mask val : Nat} (hm : BitVec.ofNat 44 mask = m ++ n)
    (hv : BitVec.ofNat 44 val = v ++ u) (ho : off &&& m = v) (hw : w &&& n = u) :
    fits (mask, val) (.hostWrite (off ++ w)) = true := by
  have : (off ++ w) &&& (m ++ n) = (off &&& m) ++ (w &&& n) := by
    apply BitVec.eq_of_getLsbD_eq
    intro i _
    simp only [BitVec.getLsbD_and, BitVec.getLsbD_append]
    split <;> rfl
  simp only [fits, hm, hv, this, ho, hw, beq_self_eq_true]

/-- A mask of one bit keeps that bit. -/
theorem and_one_bit {n : Nat} (v : BitVec n) (k : Nat) (b : Bool) (h : v.getLsbD k = b) :
    v &&& BitVec.twoPow n k = if b then BitVec.twoPow n k else 0 := by
  rw [BitVec.and_twoPow, h]
  simp

theorem wrCfg (w : Word) : Statement (.wrCfg w) := fun _ =>
  fits_write (m := 0xFFF#12) (n := 0) (v := 0x000#12) (u := 0) (by decide) (by decide) (by decide) (BitVec.and_zero)

theorem wrCtrlStart (w : Word) : Statement (.wrCtrlStart w) := fun h => fits_write (m := 0xFFF#12) (v := 0x004#12) (by decide) (by decide) (by decide) (and_one_bit w 0 true h)

theorem wrCtrlNoStart (w : Word) : Statement (.wrCtrlNoStart w) := fun h =>
  fits_write (m := 0xFFF#12) (v := 0x004#12) (by decide) (by decide) (by decide) (and_one_bit w 0 false (Bool.not_eq_true' _ ▸ h))

theorem wrStatus (w : Word) : Statement (.wrStatus w) := fun _ =>
  fits_write (m := 0xFFF#12) (n := 0) (v := 0x008#12) (u := 0) (by decide) (by decide) (by decide) (BitVec.and_zero)

theorem wrBtnEnable (w : Word) : Statement (.wrBtnEnable w) := fun _ =>
  fits_write (m := 0xFFF#12) (n := 0) (v := 0x014#12) (u := 0) (by decide) (by decide) (by decide) (BitVec.and_zero)

theorem pressHeater : Statement (.pressHeater) := fun _ => rfl

theorem pressFilter : Statement (.pressFilter) := fun _ => rfl

theorem pressBubbles : Statement (.pressBubbles) := fun _ => rfl

theorem pressJets : Statement (.pressJets) := fun _ => rfl

theorem pressLock : Statement (.pressLock) := fun _ => rfl

theorem pressPower : Statement (.pressPower) := fun _ => rfl

theorem pressUnit : Statement (.pressUnit) := fun _ => rfl

theorem pressTimer : Statement (.pressTimer) := fun _ => rfl

theorem pressUp : Statement (.pressUp) := fun _ => rfl

theorem pressDown : Statement (.pressDown) := fun _ => rfl

theorem holdHeater : Statement (.holdHeater) := fun _ => rfl

theorem holdFilter : Statement (.holdFilter) := fun _ => rfl

theorem holdBubbles : Statement (.holdBubbles) := fun _ => rfl

theorem holdJets : Statement (.holdJets) := fun _ => rfl

theorem holdLock : Statement (.holdLock) := fun _ => rfl

theorem holdPower : Statement (.holdPower) := fun _ => rfl

theorem holdUnit : Statement (.holdUnit) := fun _ => rfl

theorem holdTimer : Statement (.holdTimer) := fun _ => rfl

theorem holdUp : Statement (.holdUp) := fun _ => rfl

theorem holdDown : Statement (.holdDown) := fun _ => rfl

theorem releaseHeater : Statement (.releaseHeater) := fun _ => rfl

theorem releaseFilter : Statement (.releaseFilter) := fun _ => rfl

theorem releaseBubbles : Statement (.releaseBubbles) := fun _ => rfl

theorem releaseJets : Statement (.releaseJets) := fun _ => rfl

theorem releaseLock : Statement (.releaseLock) := fun _ => rfl

theorem releasePower : Statement (.releasePower) := fun _ => rfl

theorem releaseUnit : Statement (.releaseUnit) := fun _ => rfl

theorem releaseTimer : Statement (.releaseTimer) := fun _ => rfl

theorem releaseUp : Statement (.releaseUp) := fun _ => rfl

theorem releaseDown : Statement (.releaseDown) := fun _ => rfl

theorem wrCmdIllegalAction3 (button : BitVec 4) : Statement (.wrCmdIllegalAction3 button) := fun _ => by revert button; decide

theorem wrCmdIllegalButton10 (action : BitVec 2) (low : BitVec 1) : Statement (.wrCmdIllegalButton10 action low) := fun _ => by revert action low; decide

theorem wrCmdIllegalButton12 (action : BitVec 2) (low : BitVec 2) : Statement (.wrCmdIllegalButton12 action low) := fun _ => by revert action low; decide

theorem wrCmdIllegalBit6 (w : Word) : Statement (.wrCmdIllegalBit6 w) := fun h =>
  fits_write (m := 0xFFF#12) (v := 0x018#12) (by decide) (by decide) (by decide) (and_one_bit w 6 true h)

theorem wrCmdIllegalBit7 (w : Word) : Statement (.wrCmdIllegalBit7 w) := fun h =>
  fits_write (m := 0xFFF#12) (v := 0x018#12) (by decide) (by decide) (by decide) (and_one_bit w 7 true (Bool.and_eq_true_iff.mp h).1)

theorem wrCmdIllegalBit8 (w : Word) : Statement (.wrCmdIllegalBit8 w) := fun h =>
  fits_write (m := 0xFFF#12) (v := 0x018#12) (by decide) (by decide) (by decide) (and_one_bit w 8 true (Bool.and_eq_true_iff.mp h).1)

theorem wrCmdIllegalBit9 (w : Word) : Statement (.wrCmdIllegalBit9 w) := fun h =>
  fits_write (m := 0xFFF#12) (v := 0x018#12) (by decide) (by decide) (by decide) (and_one_bit w 9 true (Bool.and_eq_true_iff.mp h).1)

theorem wrCmdIllegalBit10 (w : Word) : Statement (.wrCmdIllegalBit10 w) := fun h =>
  fits_write (m := 0xFFF#12) (v := 0x018#12) (by decide) (by decide) (by decide) (and_one_bit w 10 true (Bool.and_eq_true_iff.mp h).1)

theorem wrCmdIllegalBit11 (w : Word) : Statement (.wrCmdIllegalBit11 w) := fun h =>
  fits_write (m := 0xFFF#12) (v := 0x018#12) (by decide) (by decide) (by decide) (and_one_bit w 11 true (Bool.and_eq_true_iff.mp h).1)

theorem wrCmdIllegalBit12 (w : Word) : Statement (.wrCmdIllegalBit12 w) := fun h =>
  fits_write (m := 0xFFF#12) (v := 0x018#12) (by decide) (by decide) (by decide) (and_one_bit w 12 true (Bool.and_eq_true_iff.mp h).1)

theorem wrCmdIllegalBit13 (w : Word) : Statement (.wrCmdIllegalBit13 w) := fun h =>
  fits_write (m := 0xFFF#12) (v := 0x018#12) (by decide) (by decide) (by decide) (and_one_bit w 13 true (Bool.and_eq_true_iff.mp h).1)

theorem wrCmdIllegalBit14 (w : Word) : Statement (.wrCmdIllegalBit14 w) := fun h =>
  fits_write (m := 0xFFF#12) (v := 0x018#12) (by decide) (by decide) (by decide) (and_one_bit w 14 true (Bool.and_eq_true_iff.mp h).1)

theorem wrCmdIllegalBit15 (w : Word) : Statement (.wrCmdIllegalBit15 w) := fun h =>
  fits_write (m := 0xFFF#12) (v := 0x018#12) (by decide) (by decide) (by decide) (and_one_bit w 15 true (Bool.and_eq_true_iff.mp h).1)

theorem wrCmdIllegalBit16 (w : Word) : Statement (.wrCmdIllegalBit16 w) := fun h =>
  fits_write (m := 0xFFF#12) (v := 0x018#12) (by decide) (by decide) (by decide) (and_one_bit w 16 true (Bool.and_eq_true_iff.mp h).1)

theorem wrCmdIllegalBit17 (w : Word) : Statement (.wrCmdIllegalBit17 w) := fun h =>
  fits_write (m := 0xFFF#12) (v := 0x018#12) (by decide) (by decide) (by decide) (and_one_bit w 17 true (Bool.and_eq_true_iff.mp h).1)

theorem wrCmdIllegalBit18 (w : Word) : Statement (.wrCmdIllegalBit18 w) := fun h =>
  fits_write (m := 0xFFF#12) (v := 0x018#12) (by decide) (by decide) (by decide) (and_one_bit w 18 true (Bool.and_eq_true_iff.mp h).1)

theorem wrCmdIllegalBit19 (w : Word) : Statement (.wrCmdIllegalBit19 w) := fun h =>
  fits_write (m := 0xFFF#12) (v := 0x018#12) (by decide) (by decide) (by decide) (and_one_bit w 19 true (Bool.and_eq_true_iff.mp h).1)

theorem wrCmdIllegalBit20 (w : Word) : Statement (.wrCmdIllegalBit20 w) := fun h =>
  fits_write (m := 0xFFF#12) (v := 0x018#12) (by decide) (by decide) (by decide) (and_one_bit w 20 true (Bool.and_eq_true_iff.mp h).1)

theorem wrCmdIllegalBit21 (w : Word) : Statement (.wrCmdIllegalBit21 w) := fun h =>
  fits_write (m := 0xFFF#12) (v := 0x018#12) (by decide) (by decide) (by decide) (and_one_bit w 21 true (Bool.and_eq_true_iff.mp h).1)

theorem wrCmdIllegalBit22 (w : Word) : Statement (.wrCmdIllegalBit22 w) := fun h =>
  fits_write (m := 0xFFF#12) (v := 0x018#12) (by decide) (by decide) (by decide) (and_one_bit w 22 true (Bool.and_eq_true_iff.mp h).1)

theorem wrCmdIllegalBit23 (w : Word) : Statement (.wrCmdIllegalBit23 w) := fun h =>
  fits_write (m := 0xFFF#12) (v := 0x018#12) (by decide) (by decide) (by decide) (and_one_bit w 23 true (Bool.and_eq_true_iff.mp h).1)

theorem wrCmdIllegalBit24 (w : Word) : Statement (.wrCmdIllegalBit24 w) := fun h =>
  fits_write (m := 0xFFF#12) (v := 0x018#12) (by decide) (by decide) (by decide) (and_one_bit w 24 true (Bool.and_eq_true_iff.mp h).1)

theorem wrCmdIllegalBit25 (w : Word) : Statement (.wrCmdIllegalBit25 w) := fun h =>
  fits_write (m := 0xFFF#12) (v := 0x018#12) (by decide) (by decide) (by decide) (and_one_bit w 25 true (Bool.and_eq_true_iff.mp h).1)

theorem wrCmdIllegalBit26 (w : Word) : Statement (.wrCmdIllegalBit26 w) := fun h =>
  fits_write (m := 0xFFF#12) (v := 0x018#12) (by decide) (by decide) (by decide) (and_one_bit w 26 true (Bool.and_eq_true_iff.mp h).1)

theorem wrCmdIllegalBit27 (w : Word) : Statement (.wrCmdIllegalBit27 w) := fun h =>
  fits_write (m := 0xFFF#12) (v := 0x018#12) (by decide) (by decide) (by decide) (and_one_bit w 27 true (Bool.and_eq_true_iff.mp h).1)

theorem wrCmdIllegalBit28 (w : Word) : Statement (.wrCmdIllegalBit28 w) := fun h =>
  fits_write (m := 0xFFF#12) (v := 0x018#12) (by decide) (by decide) (by decide) (and_one_bit w 28 true (Bool.and_eq_true_iff.mp h).1)

theorem wrCmdIllegalBit29 (w : Word) : Statement (.wrCmdIllegalBit29 w) := fun h =>
  fits_write (m := 0xFFF#12) (v := 0x018#12) (by decide) (by decide) (by decide) (and_one_bit w 29 true (Bool.and_eq_true_iff.mp h).1)

theorem wrCmdIllegalBit30 (w : Word) : Statement (.wrCmdIllegalBit30 w) := fun h =>
  fits_write (m := 0xFFF#12) (v := 0x018#12) (by decide) (by decide) (by decide) (and_one_bit w 30 true (Bool.and_eq_true_iff.mp h).1)

theorem wrCmdIllegalBit31 (w : Word) : Statement (.wrCmdIllegalBit31 w) := fun h =>
  fits_write (m := 0xFFF#12) (v := 0x018#12) (by decide) (by decide) (by decide) (and_one_bit w 31 true (Bool.and_eq_true_iff.mp h).1)

theorem wrDelivered (w : Word) : Statement (.wrDelivered w) := fun _ =>
  fits_write (m := 0xFFF#12) (n := 0) (v := 0x024#12) (u := 0) (by decide) (by decide) (by decide) (BitVec.and_zero)

theorem wrFailed (w : Word) : Statement (.wrFailed w) := fun _ =>
  fits_write (m := 0xFFF#12) (n := 0) (v := 0x028#12) (u := 0) (by decide) (by decide) (by decide) (BitVec.and_zero)

theorem wrSnap (w : Word) : Statement (.wrSnap w) := fun _ =>
  fits_write (m := 0xFFF#12) (n := 0) (v := 0x02C#12) (u := 0) (by decide) (by decide) (by decide) (BitVec.and_zero)

theorem wrInvalidCountIgnored (w : Word) : Statement (.wrInvalidCountIgnored w) := fun _ =>
  fits_write (m := 0xFFF#12) (n := 0) (v := 0x00C#12) (u := 0) (by decide) (by decide) (by decide) (BitVec.and_zero)

theorem wrErrCauseIgnored (w : Word) : Statement (.wrErrCauseIgnored w) := fun _ =>
  fits_write (m := 0xFFF#12) (n := 0) (v := 0x010#12) (u := 0) (by decide) (by decide) (by decide) (BitVec.and_zero)

theorem wrSlotPendingIgnored (w : Word) : Statement (.wrSlotPendingIgnored w) := fun _ =>
  fits_write (m := 0xFFF#12) (n := 0) (v := 0x01C#12) (u := 0) (by decide) (by decide) (by decide) (BitVec.and_zero)

theorem wrSlotHoldingIgnored (w : Word) : Statement (.wrSlotHoldingIgnored w) := fun _ =>
  fits_write (m := 0xFFF#12) (n := 0) (v := 0x020#12) (u := 0) (by decide) (by decide) (by decide) (BitVec.and_zero)

theorem wrSnapNowLoIgnored (w : Word) : Statement (.wrSnapNowLoIgnored w) := fun _ =>
  fits_write (m := 0xFFF#12) (n := 0) (v := 0x030#12) (u := 0) (by decide) (by decide) (by decide) (BitVec.and_zero)

theorem wrSnapNowHiIgnored (w : Word) : Statement (.wrSnapNowHiIgnored w) := fun _ =>
  fits_write (m := 0xFFF#12) (n := 0) (v := 0x034#12) (u := 0) (by decide) (by decide) (by decide) (BitVec.and_zero)

theorem wrSnapLastUpdateLoIgnored (w : Word) : Statement (.wrSnapLastUpdateLoIgnored w) := fun _ =>
  fits_write (m := 0xFFF#12) (n := 0) (v := 0x038#12) (u := 0) (by decide) (by decide) (by decide) (BitVec.and_zero)

theorem wrSnapLastUpdateHiIgnored (w : Word) : Statement (.wrSnapLastUpdateHiIgnored w) := fun _ =>
  fits_write (m := 0xFFF#12) (n := 0) (v := 0x03C#12) (u := 0) (by decide) (by decide) (by decide) (BitVec.and_zero)

theorem wrSnapValidIgnored (w : Word) : Statement (.wrSnapValidIgnored w) := fun _ =>
  fits_write (m := 0xFFF#12) (n := 0) (v := 0x040#12) (u := 0) (by decide) (by decide) (by decide) (BitVec.and_zero)

theorem wrSnapFieldLo0Ignored (w : Word) : Statement (.wrSnapFieldLo0Ignored w) := fun _ =>
  fits_write (m := 0xFFF#12) (n := 0) (v := 0x080#12) (u := 0) (by decide) (by decide) (by decide) (BitVec.and_zero)

theorem wrSnapFieldHi0Ignored (w : Word) : Statement (.wrSnapFieldHi0Ignored w) := fun _ =>
  fits_write (m := 0xFFF#12) (n := 0) (v := 0x084#12) (u := 0) (by decide) (by decide) (by decide) (BitVec.and_zero)

theorem wrSnapFieldLo1Ignored (w : Word) : Statement (.wrSnapFieldLo1Ignored w) := fun _ =>
  fits_write (m := 0xFFF#12) (n := 0) (v := 0x088#12) (u := 0) (by decide) (by decide) (by decide) (BitVec.and_zero)

theorem wrSnapFieldHi1Ignored (w : Word) : Statement (.wrSnapFieldHi1Ignored w) := fun _ =>
  fits_write (m := 0xFFF#12) (n := 0) (v := 0x08C#12) (u := 0) (by decide) (by decide) (by decide) (BitVec.and_zero)

theorem wrSnapFieldLo2Ignored (w : Word) : Statement (.wrSnapFieldLo2Ignored w) := fun _ =>
  fits_write (m := 0xFFF#12) (n := 0) (v := 0x090#12) (u := 0) (by decide) (by decide) (by decide) (BitVec.and_zero)

theorem wrSnapFieldHi2Ignored (w : Word) : Statement (.wrSnapFieldHi2Ignored w) := fun _ =>
  fits_write (m := 0xFFF#12) (n := 0) (v := 0x094#12) (u := 0) (by decide) (by decide) (by decide) (BitVec.and_zero)

theorem wrSnapFieldLo3Ignored (w : Word) : Statement (.wrSnapFieldLo3Ignored w) := fun _ =>
  fits_write (m := 0xFFF#12) (n := 0) (v := 0x098#12) (u := 0) (by decide) (by decide) (by decide) (BitVec.and_zero)

theorem wrSnapFieldHi3Ignored (w : Word) : Statement (.wrSnapFieldHi3Ignored w) := fun _ =>
  fits_write (m := 0xFFF#12) (n := 0) (v := 0x09C#12) (u := 0) (by decide) (by decide) (by decide) (BitVec.and_zero)

theorem wrSnapFieldLo4Ignored (w : Word) : Statement (.wrSnapFieldLo4Ignored w) := fun _ =>
  fits_write (m := 0xFFF#12) (n := 0) (v := 0x0A0#12) (u := 0) (by decide) (by decide) (by decide) (BitVec.and_zero)

theorem wrSnapFieldHi4Ignored (w : Word) : Statement (.wrSnapFieldHi4Ignored w) := fun _ =>
  fits_write (m := 0xFFF#12) (n := 0) (v := 0x0A4#12) (u := 0) (by decide) (by decide) (by decide) (BitVec.and_zero)

theorem wrSnapFieldLo5Ignored (w : Word) : Statement (.wrSnapFieldLo5Ignored w) := fun _ =>
  fits_write (m := 0xFFF#12) (n := 0) (v := 0x0A8#12) (u := 0) (by decide) (by decide) (by decide) (BitVec.and_zero)

theorem wrSnapFieldHi5Ignored (w : Word) : Statement (.wrSnapFieldHi5Ignored w) := fun _ =>
  fits_write (m := 0xFFF#12) (n := 0) (v := 0x0AC#12) (u := 0) (by decide) (by decide) (by decide) (BitVec.and_zero)

theorem wrSnapFieldLo6Ignored (w : Word) : Statement (.wrSnapFieldLo6Ignored w) := fun _ =>
  fits_write (m := 0xFFF#12) (n := 0) (v := 0x0B0#12) (u := 0) (by decide) (by decide) (by decide) (BitVec.and_zero)

theorem wrSnapFieldHi6Ignored (w : Word) : Statement (.wrSnapFieldHi6Ignored w) := fun _ =>
  fits_write (m := 0xFFF#12) (n := 0) (v := 0x0B4#12) (u := 0) (by decide) (by decide) (by decide) (BitVec.and_zero)

theorem wrSnapFieldLo7Ignored (w : Word) : Statement (.wrSnapFieldLo7Ignored w) := fun _ =>
  fits_write (m := 0xFFF#12) (n := 0) (v := 0x0B8#12) (u := 0) (by decide) (by decide) (by decide) (BitVec.and_zero)

theorem wrSnapFieldHi7Ignored (w : Word) : Statement (.wrSnapFieldHi7Ignored w) := fun _ =>
  fits_write (m := 0xFFF#12) (n := 0) (v := 0x0BC#12) (u := 0) (by decide) (by decide) (by decide) (BitVec.and_zero)

theorem wrSnapFieldLo8Ignored (w : Word) : Statement (.wrSnapFieldLo8Ignored w) := fun _ =>
  fits_write (m := 0xFFF#12) (n := 0) (v := 0x0C0#12) (u := 0) (by decide) (by decide) (by decide) (BitVec.and_zero)

theorem wrSnapFieldHi8Ignored (w : Word) : Statement (.wrSnapFieldHi8Ignored w) := fun _ =>
  fits_write (m := 0xFFF#12) (n := 0) (v := 0x0C4#12) (u := 0) (by decide) (by decide) (by decide) (BitVec.and_zero)

theorem wrSnapFieldLo9Ignored (w : Word) : Statement (.wrSnapFieldLo9Ignored w) := fun _ =>
  fits_write (m := 0xFFF#12) (n := 0) (v := 0x0C8#12) (u := 0) (by decide) (by decide) (by decide) (BitVec.and_zero)

theorem wrSnapFieldHi9Ignored (w : Word) : Statement (.wrSnapFieldHi9Ignored w) := fun _ =>
  fits_write (m := 0xFFF#12) (n := 0) (v := 0x0CC#12) (u := 0) (by decide) (by decide) (by decide) (BitVec.and_zero)

theorem wrSnapFieldLo10Ignored (w : Word) : Statement (.wrSnapFieldLo10Ignored w) := fun _ =>
  fits_write (m := 0xFFF#12) (n := 0) (v := 0x0D0#12) (u := 0) (by decide) (by decide) (by decide) (BitVec.and_zero)

theorem wrSnapFieldHi10Ignored (w : Word) : Statement (.wrSnapFieldHi10Ignored w) := fun _ =>
  fits_write (m := 0xFFF#12) (n := 0) (v := 0x0D4#12) (u := 0) (by decide) (by decide) (by decide) (BitVec.and_zero)

theorem wrReserved044 (w : Word) : Statement (.wrReserved044 w) := fun _ =>
  fits_write (m := 0xFFF#12) (n := 0) (v := 0x044#12) (u := 0) (by decide) (by decide) (by decide) (BitVec.and_zero)

theorem rdReserved044 : Statement (.rdReserved044) := fun _ => rfl

theorem wrReserved048 (off : Offset) (w : Word) : Statement (.wrReserved048 off w) := fun h =>
  fits_write (m := 0xFFB#12) (n := 0) (v := 0x048#12) (u := 0) (by decide) (by decide) (eq_of_beq h) (BitVec.and_zero)

theorem rdReserved048 (off : Offset) : Statement (.rdReserved048 off) := fun h => h

theorem wrReserved050 (off : Offset) (w : Word) : Statement (.wrReserved050 off w) := fun h =>
  fits_write (m := 0xFF3#12) (n := 0) (v := 0x050#12) (u := 0) (by decide) (by decide) (eq_of_beq h) (BitVec.and_zero)

theorem rdReserved050 (off : Offset) : Statement (.rdReserved050 off) := fun h => h

theorem wrReserved060 (off : Offset) (w : Word) : Statement (.wrReserved060 off w) := fun h =>
  fits_write (m := 0xFE3#12) (n := 0) (v := 0x060#12) (u := 0) (by decide) (by decide) (eq_of_beq h) (BitVec.and_zero)

theorem rdReserved060 (off : Offset) : Statement (.rdReserved060 off) := fun h => h

theorem wrReserved0D8 (off : Offset) (w : Word) : Statement (.wrReserved0D8 off w) := fun h =>
  fits_write (m := 0xFFB#12) (n := 0) (v := 0x0D8#12) (u := 0) (by decide) (by decide) (eq_of_beq h) (BitVec.and_zero)

theorem rdReserved0D8 (off : Offset) : Statement (.rdReserved0D8 off) := fun h => h

theorem wrReserved0E0 (off : Offset) (w : Word) : Statement (.wrReserved0E0 off w) := fun h =>
  fits_write (m := 0xFE3#12) (n := 0) (v := 0x0E0#12) (u := 0) (by decide) (by decide) (eq_of_beq h) (BitVec.and_zero)

theorem rdReserved0E0 (off : Offset) : Statement (.rdReserved0E0 off) := fun h => h

theorem wrReserved100 (off : Offset) (w : Word) : Statement (.wrReserved100 off w) := fun h =>
  fits_write (m := 0xF03#12) (n := 0) (v := 0x100#12) (u := 0) (by decide) (by decide) (eq_of_beq h) (BitVec.and_zero)

theorem rdReserved100 (off : Offset) : Statement (.rdReserved100 off) := fun h => h

theorem wrReserved200 (off : Offset) (w : Word) : Statement (.wrReserved200 off w) := fun h =>
  fits_write (m := 0xE03#12) (n := 0) (v := 0x200#12) (u := 0) (by decide) (by decide) (eq_of_beq h) (BitVec.and_zero)

theorem rdReserved200 (off : Offset) : Statement (.rdReserved200 off) := fun h => h

theorem wrReserved400 (off : Offset) (w : Word) : Statement (.wrReserved400 off w) := fun h =>
  fits_write (m := 0xC03#12) (n := 0) (v := 0x400#12) (u := 0) (by decide) (by decide) (eq_of_beq h) (BitVec.and_zero)

theorem rdReserved400 (off : Offset) : Statement (.rdReserved400 off) := fun h => h

theorem wrReserved800 (off : Offset) (w : Word) : Statement (.wrReserved800 off w) := fun h =>
  fits_write (m := 0x803#12) (n := 0) (v := 0x800#12) (u := 0) (by decide) (by decide) (eq_of_beq h) (BitVec.and_zero)

theorem rdReserved800 (off : Offset) : Statement (.rdReserved800 off) := fun h => h

theorem wrMisalignedOff0 (off : Offset) (w : Word) : Statement (.wrMisalignedOff0 off w) := fun h =>
  fits_write (m := BitVec.twoPow 12 0) (n := 0) (v := BitVec.twoPow 12 0) (u := 0) (by decide) (by decide) (and_one_bit off 0 true h) (BitVec.and_zero)

theorem rdMisalignedOff0 (off : Offset) : Statement (.rdMisalignedOff0 off) := fun h =>
  beq_iff_eq.mpr (and_one_bit off 0 true h)

theorem wrMisalignedOff1 (off : Offset) (w : Word) : Statement (.wrMisalignedOff1 off w) := fun h =>
  fits_write (m := BitVec.twoPow 12 1) (n := 0) (v := BitVec.twoPow 12 1) (u := 0) (by decide) (by decide) (and_one_bit off 1 true (Bool.and_eq_true_iff.mp h).2) (BitVec.and_zero)

theorem rdMisalignedOff1 (off : Offset) : Statement (.rdMisalignedOff1 off) := fun h =>
  beq_iff_eq.mpr (and_one_bit off 1 true (Bool.and_eq_true_iff.mp h).2)

theorem rdCfg : Statement (.rdCfg) := fun _ => rfl

theorem rdCtrl : Statement (.rdCtrl) := fun _ => rfl

theorem rdStatus : Statement (.rdStatus) := fun _ => rfl

theorem rdInvalidCount : Statement (.rdInvalidCount) := fun _ => rfl

theorem rdErrCause : Statement (.rdErrCause) := fun _ => rfl

theorem rdBtnEnable : Statement (.rdBtnEnable) := fun _ => rfl

theorem rdCmd : Statement (.rdCmd) := fun _ => rfl

theorem rdSlotPending : Statement (.rdSlotPending) := fun _ => rfl

theorem rdSlotHolding : Statement (.rdSlotHolding) := fun _ => rfl

theorem rdDelivered : Statement (.rdDelivered) := fun _ => rfl

theorem rdFailed : Statement (.rdFailed) := fun _ => rfl

theorem rdSnap : Statement (.rdSnap) := fun _ => rfl

theorem rdSnapNowLo : Statement (.rdSnapNowLo) := fun _ => rfl

theorem rdSnapNowHi : Statement (.rdSnapNowHi) := fun _ => rfl

theorem rdSnapLastUpdateLo : Statement (.rdSnapLastUpdateLo) := fun _ => rfl

theorem rdSnapLastUpdateHi : Statement (.rdSnapLastUpdateHi) := fun _ => rfl

theorem rdSnapValid : Statement (.rdSnapValid) := fun _ => rfl

theorem rdSnapFieldLo0 : Statement (.rdSnapFieldLo0) := fun _ => rfl

theorem rdSnapFieldHi0 : Statement (.rdSnapFieldHi0) := fun _ => rfl

theorem rdSnapFieldLo1 : Statement (.rdSnapFieldLo1) := fun _ => rfl

theorem rdSnapFieldHi1 : Statement (.rdSnapFieldHi1) := fun _ => rfl

theorem rdSnapFieldLo2 : Statement (.rdSnapFieldLo2) := fun _ => rfl

theorem rdSnapFieldHi2 : Statement (.rdSnapFieldHi2) := fun _ => rfl

theorem rdSnapFieldLo3 : Statement (.rdSnapFieldLo3) := fun _ => rfl

theorem rdSnapFieldHi3 : Statement (.rdSnapFieldHi3) := fun _ => rfl

theorem rdSnapFieldLo4 : Statement (.rdSnapFieldLo4) := fun _ => rfl

theorem rdSnapFieldHi4 : Statement (.rdSnapFieldHi4) := fun _ => rfl

theorem rdSnapFieldLo5 : Statement (.rdSnapFieldLo5) := fun _ => rfl

theorem rdSnapFieldHi5 : Statement (.rdSnapFieldHi5) := fun _ => rfl

theorem rdSnapFieldLo6 : Statement (.rdSnapFieldLo6) := fun _ => rfl

theorem rdSnapFieldHi6 : Statement (.rdSnapFieldHi6) := fun _ => rfl

theorem rdSnapFieldLo7 : Statement (.rdSnapFieldLo7) := fun _ => rfl

theorem rdSnapFieldHi7 : Statement (.rdSnapFieldHi7) := fun _ => rfl

theorem rdSnapFieldLo8 : Statement (.rdSnapFieldLo8) := fun _ => rfl

theorem rdSnapFieldHi8 : Statement (.rdSnapFieldHi8) := fun _ => rfl

theorem rdSnapFieldLo9 : Statement (.rdSnapFieldLo9) := fun _ => rfl

theorem rdSnapFieldHi9 : Statement (.rdSnapFieldHi9) := fun _ => rfl

theorem rdSnapFieldLo10 : Statement (.rdSnapFieldLo10) := fun _ => rfl

theorem rdSnapFieldHi10 : Statement (.rdSnapFieldHi10) := fun _ => rfl

theorem idleLine (kPrev : Bool) (kCur : Bool) (d : Bool) : Statement (.idleLine kPrev kCur d) := fun _ => by revert kPrev kCur d; decide

theorem csAssert (kPrev : Bool) (kCur : Bool) (d : Bool) : Statement (.csAssert kPrev kCur d) := fun _ => by revert kPrev kCur d; decide

theorem csDeassert (kPrev : Bool) (kCur : Bool) (d : Bool) : Statement (.csDeassert kPrev kCur d) := fun _ => by revert kPrev kCur d; decide

theorem bit (d : Bool) : Statement (.bit d) := fun _ => by revert d; decide

theorem heldInactive (d : Bool) : Statement (.heldInactive d) := fun _ => by revert d; decide

theorem heldReturn (d : Bool) : Statement (.heldReturn d) := fun _ => by revert d; decide

theorem heldActive (d : Bool) : Statement (.heldActive d) := fun _ => by revert d; decide

end Sys2Proof.Laws.EncodesRow
end

