-- ==== Sys2Proof/Laws/Transactions.lean ====
section
/-! SUPPORT. What a host transaction does by its offset (R70, R72): at an aligned offset it completes, and what it does is kept or,
while RST is asserted, discarded. -/

namespace Sys2Proof.Machine

@[simp] theorem extract_off_append (off : Offset) (w : Word) : (off ++ w).extractLsb' 32 12 = off := by
  refine BitVec.eq_of_getLsbD_eq fun i hi => ?_
  rw [BitVec.getLsbD_extractLsb', BitVec.getLsbD_append]
  simp [hi]

@[simp] theorem extract_data_append (off : Offset) (w : Word) : (off ++ w).extractLsb' 0 32 = w := by
  refine BitVec.eq_of_getLsbD_eq fun i hi => ?_
  rw [BitVec.getLsbD_extractLsb', BitVec.getLsbD_append]
  simp [hi]

/-- An offset is aligned where both its low bits are 0 (R72). -/
theorem aligned_bits {off : Offset} (h : off.extractLsb' 0 2 = 0) : off.getLsbD 0 = false ∧ off.getLsbD 1 = false := by
  have hb : ∀ i < 2, off.getLsbD i = false := fun i hi => by
    have := congrArg (fun v : BitVec 2 => v.getLsbD i) h
    simpa [BitVec.getLsbD_extractLsb', hi] using this
  exact ⟨hb 0 (by decide), hb 1 (by decide)⟩

/-- A choice between two operations that complete completes. -/
theorem exec_ite_next {c : Prop} [Decidable c] {i j : Instr} {s : State} (hi : ∃ t, exec i s = .next t)
    (hj : ∃ t, exec j s = .next t) : ∃ t, exec (if c then i else j) s = .next t := by
  split <;> assumption

/-- Every aligned read completes. -/
theorem exec_aligned_read (off : Offset) (h : off.extractLsb' 0 2 = 0) (s : State) :
    ∃ t, exec (decode (.hostRead off)) s = .next t := by
  obtain ⟨h0, h1⟩ := aligned_bits h
  simp only [decode, decodeRead, h0, h1, Bool.false_eq_true, if_false]
  repeat' (first | exact ⟨_, rfl⟩ | apply exec_ite_next)

/-- Every write to CMD completes, whatever its word. -/
theorem exec_decodeCmd_next (w : Word) (s : State) : ∃ t, exec (decodeCmd w) s = .next t := by
  unfold decodeCmd
  repeat' (first | exact ⟨_, rfl⟩ | apply exec_ite_next)

/-- Every aligned write completes. -/
theorem exec_aligned_write (off : Offset) (w : Word) (h : off.extractLsb' 0 2 = 0) (s : State) :
    ∃ t, exec (decode (.hostWrite (off ++ w))) s = .next t := by
  obtain ⟨h0, h1⟩ := aligned_bits h
  simp only [decode, extract_off_append, extract_data_append, decodeWrite, decodeCtrl, h0, h1, Bool.false_eq_true, if_false]
  repeat' (first | exact exec_decodeCmd_next _ _ | exact ⟨_, rfl⟩ | apply exec_ite_next)

/-- A transaction under reset leaves the state where its operation would complete, and stops as its operation does. -/
theorem stepTransaction_under_reset {op : OpWord} {s : State} (hr : s.env.rst = true) :
    stepTransaction 4 op s = thenNext (exec (decode op) s) fun _ => s := by
  simp only [stepTransaction, hr, if_true]

end Sys2Proof.Machine
end

