-- ==== Sys2Proof/Tests/Slice0.lean ====
section
/-! SUPPORT. Tests: ill-formed terms, a word of every row of the opcode table, one operation or one step at a time with values from
the spec, and for each statement with hypotheses a state and operands that meet them. -/

namespace Sys2Proof.Tests

open Sys2Proof.Machine

/-! ### Well-formedness -/

/-- The START bit of a CTRL word (R95): each term is refused. -/
theorem test_wf_refuses_start :
    ([.wrCtrlStart 0xFFFFFFFE, .wrCtrlNoStart 1] : List Instr).all (fun i => !i.wf) = true := by decide

/-- The illegal command rows: the bit or action of the row, and no earlier row (R93, log 10): each term is refused. -/
theorem test_wf_refuses_illegal :
    ([.wrCmdIllegalButton10 3 0, .wrCmdIllegalButton12 3 0, .wrCmdIllegalBit6 0xFFFFFFBF,
      .wrCmdIllegalBit7 0xFFFFFF7F, .wrCmdIllegalBit7 0x000000C0, .wrCmdIllegalBit8 0xFFFFFEFF,
      .wrCmdIllegalBit8 0x00000180, .wrCmdIllegalBit9 0xFFFFFDFF, .wrCmdIllegalBit9 0x00000300,
      .wrCmdIllegalBit10 0xFFFFFBFF, .wrCmdIllegalBit10 0x00000600, .wrCmdIllegalBit11 0xFFFFF7FF,
      .wrCmdIllegalBit11 0x00000C00, .wrCmdIllegalBit12 0xFFFFEFFF, .wrCmdIllegalBit12 0x00001800,
      .wrCmdIllegalBit13 0xFFFFDFFF, .wrCmdIllegalBit13 0x00003000, .wrCmdIllegalBit14 0xFFFFBFFF,
      .wrCmdIllegalBit14 0x00006000, .wrCmdIllegalBit15 0xFFFF7FFF, .wrCmdIllegalBit15 0x0000C000,
      .wrCmdIllegalBit16 0xFFFEFFFF, .wrCmdIllegalBit16 0x00018000, .wrCmdIllegalBit17 0xFFFDFFFF,
      .wrCmdIllegalBit17 0x00030000, .wrCmdIllegalBit18 0xFFFBFFFF, .wrCmdIllegalBit18 0x00060000,
      .wrCmdIllegalBit19 0xFFF7FFFF, .wrCmdIllegalBit19 0x000C0000, .wrCmdIllegalBit20 0xFFEFFFFF,
      .wrCmdIllegalBit20 0x00180000, .wrCmdIllegalBit21 0xFFDFFFFF, .wrCmdIllegalBit21 0x00300000,
      .wrCmdIllegalBit22 0xFFBFFFFF, .wrCmdIllegalBit22 0x00600000, .wrCmdIllegalBit23 0xFF7FFFFF,
      .wrCmdIllegalBit23 0x00C00000, .wrCmdIllegalBit24 0xFEFFFFFF, .wrCmdIllegalBit24 0x01800000,
      .wrCmdIllegalBit25 0xFDFFFFFF, .wrCmdIllegalBit25 0x03000000, .wrCmdIllegalBit26 0xFBFFFFFF,
      .wrCmdIllegalBit26 0x06000000, .wrCmdIllegalBit27 0xF7FFFFFF, .wrCmdIllegalBit27 0x0C000000,
      .wrCmdIllegalBit28 0xEFFFFFFF, .wrCmdIllegalBit28 0x18000000, .wrCmdIllegalBit29 0xDFFFFFFF,
      .wrCmdIllegalBit29 0x30000000, .wrCmdIllegalBit30 0xBFFFFFFF, .wrCmdIllegalBit30 0x60000000,
      .wrCmdIllegalBit31 0x7FFFFFFF, .wrCmdIllegalBit31 0xC0000000] : List Instr).all (fun i => !i.wf) = true := by decide

/-- The offsets of the reserved rows (R74): each term is refused. -/
theorem test_wf_refuses_offsets :
    ([.wrReserved048 0x044 0, .rdReserved048 0x044, .wrReserved050 0x044 0, .rdReserved050 0x044,
      .wrReserved060 0x044 0, .rdReserved060 0x044, .wrReserved0D8 0x044 0, .rdReserved0D8 0x044,
      .wrReserved0E0 0x044 0, .rdReserved0E0 0x044, .wrReserved100 0x044 0, .rdReserved100 0x044,
      .wrReserved200 0x044 0, .rdReserved200 0x044, .wrReserved400 0x044 0, .rdReserved400 0x044,
      .wrReserved800 0x044 0, .rdReserved800 0x044] : List Instr).all (fun i => !i.wf) = true := by decide

/-- The offsets of the misaligned rows (R72): each term is refused. -/
theorem test_wf_refuses_misaligned :
    ([.wrMisalignedOff0 4 0, .rdMisalignedOff0 4, .wrMisalignedOff1 1 0, .rdMisalignedOff1 1] : List Instr).all (fun i => !i.wf) = true := by decide

/-! ### A word of every row, written out from `30_encoding.md` and the table's masks, free bits set to a pattern -/

/-- Words of configuration and control writes (R94, R95). -/
theorem test_decode_config_writes :
    decodeTableWord 48 0x000_C96E1B7D = some (.wrCfg 0xC96E1B7D)
      ∧ decodeTableWord 48 0x004_C96E1B7D = some (.wrCtrlStart 0xC96E1B7D)
      ∧ decodeTableWord 48 0x004_C96E1B7C = some (.wrCtrlNoStart 0xC96E1B7C)
      ∧ decodeTableWord 48 0x008_C96E1B7D = some (.wrStatus 0xC96E1B7D)
      ∧ decodeTableWord 48 0x014_C96E1B7D = some (.wrBtnEnable 0xC96E1B7D)
      ∧ decodeTableWord 48 0x024_C96E1B7D = some (.wrDelivered 0xC96E1B7D)
      ∧ decodeTableWord 48 0x028_C96E1B7D = some (.wrFailed 0xC96E1B7D)
      ∧ decodeTableWord 48 0x02C_C96E1B7D = some (.wrSnap 0xC96E1B7D) := by decide

/-- Words of legal command words (R93; the T column of R93). -/
theorem test_decode_commands_1 :
    decodeTableWord 48 0x018_00000000 = some .pressHeater
      ∧ decodeTableWord 48 0x018_00000001 = some .pressFilter
      ∧ decodeTableWord 48 0x018_00000002 = some .pressBubbles
      ∧ decodeTableWord 48 0x018_00000003 = some .pressJets
      ∧ decodeTableWord 48 0x018_00000004 = some .pressLock
      ∧ decodeTableWord 48 0x018_00000005 = some .pressPower
      ∧ decodeTableWord 48 0x018_00000006 = some .pressUnit
      ∧ decodeTableWord 48 0x018_00000007 = some .pressTimer
      ∧ decodeTableWord 48 0x018_00000008 = some .pressUp
      ∧ decodeTableWord 48 0x018_00000009 = some .pressDown
      ∧ decodeTableWord 48 0x018_00000010 = some .holdHeater
      ∧ decodeTableWord 48 0x018_00000011 = some .holdFilter
      ∧ decodeTableWord 48 0x018_00000012 = some .holdBubbles
      ∧ decodeTableWord 48 0x018_00000013 = some .holdJets
      ∧ decodeTableWord 48 0x018_00000014 = some .holdLock
      ∧ decodeTableWord 48 0x018_00000015 = some .holdPower
      ∧ decodeTableWord 48 0x018_00000016 = some .holdUnit
      ∧ decodeTableWord 48 0x018_00000017 = some .holdTimer
      ∧ decodeTableWord 48 0x018_00000018 = some .holdUp
      ∧ decodeTableWord 48 0x018_00000019 = some .holdDown
      ∧ decodeTableWord 48 0x018_00000020 = some .releaseHeater
      ∧ decodeTableWord 48 0x018_00000021 = some .releaseFilter
      ∧ decodeTableWord 48 0x018_00000022 = some .releaseBubbles
      ∧ decodeTableWord 48 0x018_00000023 = some .releaseJets := by decide

/-- Words of legal command words (R93; the T column of R93). -/
theorem test_decode_commands_2 :
    decodeTableWord 48 0x018_00000024 = some .releaseLock
      ∧ decodeTableWord 48 0x018_00000025 = some .releasePower
      ∧ decodeTableWord 48 0x018_00000026 = some .releaseUnit
      ∧ decodeTableWord 48 0x018_00000027 = some .releaseTimer
      ∧ decodeTableWord 48 0x018_00000028 = some .releaseUp
      ∧ decodeTableWord 48 0x018_00000029 = some .releaseDown := by decide

/-- Words of illegal command words (R93). -/
theorem test_decode_illegal_commands_1 :
    decodeTableWord 48 0x018_0000003D = some (.wrCmdIllegalAction3 13)
      ∧ decodeTableWord 48 0x018_0000001B = some (.wrCmdIllegalButton10 1 1)
      ∧ decodeTableWord 48 0x018_0000001D = some (.wrCmdIllegalButton12 1 1)
      ∧ decodeTableWord 48 0x018_C96E1B7D = some (.wrCmdIllegalBit6 0xC96E1B7D)
      ∧ decodeTableWord 48 0x018_C96E1BBD = some (.wrCmdIllegalBit7 0xC96E1BBD)
      ∧ decodeTableWord 48 0x018_C96E1B3D = some (.wrCmdIllegalBit8 0xC96E1B3D)
      ∧ decodeTableWord 48 0x018_C96E1A3D = some (.wrCmdIllegalBit9 0xC96E1A3D)
      ∧ decodeTableWord 48 0x018_C96E1C3D = some (.wrCmdIllegalBit10 0xC96E1C3D)
      ∧ decodeTableWord 48 0x018_C96E183D = some (.wrCmdIllegalBit11 0xC96E183D)
      ∧ decodeTableWord 48 0x018_C96E103D = some (.wrCmdIllegalBit12 0xC96E103D)
      ∧ decodeTableWord 48 0x018_C96E203D = some (.wrCmdIllegalBit13 0xC96E203D)
      ∧ decodeTableWord 48 0x018_C96E403D = some (.wrCmdIllegalBit14 0xC96E403D)
      ∧ decodeTableWord 48 0x018_C96E803D = some (.wrCmdIllegalBit15 0xC96E803D)
      ∧ decodeTableWord 48 0x018_C96F003D = some (.wrCmdIllegalBit16 0xC96F003D)
      ∧ decodeTableWord 48 0x018_C96E003D = some (.wrCmdIllegalBit17 0xC96E003D)
      ∧ decodeTableWord 48 0x018_C96C003D = some (.wrCmdIllegalBit18 0xC96C003D)
      ∧ decodeTableWord 48 0x018_C968003D = some (.wrCmdIllegalBit19 0xC968003D)
      ∧ decodeTableWord 48 0x018_C970003D = some (.wrCmdIllegalBit20 0xC970003D)
      ∧ decodeTableWord 48 0x018_C960003D = some (.wrCmdIllegalBit21 0xC960003D)
      ∧ decodeTableWord 48 0x018_C940003D = some (.wrCmdIllegalBit22 0xC940003D)
      ∧ decodeTableWord 48 0x018_C980003D = some (.wrCmdIllegalBit23 0xC980003D)
      ∧ decodeTableWord 48 0x018_C900003D = some (.wrCmdIllegalBit24 0xC900003D)
      ∧ decodeTableWord 48 0x018_CA00003D = some (.wrCmdIllegalBit25 0xCA00003D)
      ∧ decodeTableWord 48 0x018_CC00003D = some (.wrCmdIllegalBit26 0xCC00003D) := by decide

/-- Words of illegal command words (R93). -/
theorem test_decode_illegal_commands_2 :
    decodeTableWord 48 0x018_C800003D = some (.wrCmdIllegalBit27 0xC800003D)
      ∧ decodeTableWord 48 0x018_D000003D = some (.wrCmdIllegalBit28 0xD000003D)
      ∧ decodeTableWord 48 0x018_E000003D = some (.wrCmdIllegalBit29 0xE000003D)
      ∧ decodeTableWord 48 0x018_C000003D = some (.wrCmdIllegalBit30 0xC000003D)
      ∧ decodeTableWord 48 0x018_8000003D = some (.wrCmdIllegalBit31 0x8000003D) := by decide

/-- Words of writes to read-only registers (R60, R74). -/
theorem test_decode_read_only_writes_1 :
    decodeTableWord 48 0x00C_C96E1B7D = some (.wrInvalidCountIgnored 0xC96E1B7D)
      ∧ decodeTableWord 48 0x010_C96E1B7D = some (.wrErrCauseIgnored 0xC96E1B7D)
      ∧ decodeTableWord 48 0x01C_C96E1B7D = some (.wrSlotPendingIgnored 0xC96E1B7D)
      ∧ decodeTableWord 48 0x020_C96E1B7D = some (.wrSlotHoldingIgnored 0xC96E1B7D)
      ∧ decodeTableWord 48 0x030_C96E1B7D = some (.wrSnapNowLoIgnored 0xC96E1B7D)
      ∧ decodeTableWord 48 0x034_C96E1B7D = some (.wrSnapNowHiIgnored 0xC96E1B7D)
      ∧ decodeTableWord 48 0x038_C96E1B7D = some (.wrSnapLastUpdateLoIgnored 0xC96E1B7D)
      ∧ decodeTableWord 48 0x03C_C96E1B7D = some (.wrSnapLastUpdateHiIgnored 0xC96E1B7D)
      ∧ decodeTableWord 48 0x040_C96E1B7D = some (.wrSnapValidIgnored 0xC96E1B7D)
      ∧ decodeTableWord 48 0x080_C96E1B7D = some (.wrSnapFieldLo0Ignored 0xC96E1B7D)
      ∧ decodeTableWord 48 0x084_C96E1B7D = some (.wrSnapFieldHi0Ignored 0xC96E1B7D)
      ∧ decodeTableWord 48 0x088_C96E1B7D = some (.wrSnapFieldLo1Ignored 0xC96E1B7D)
      ∧ decodeTableWord 48 0x08C_C96E1B7D = some (.wrSnapFieldHi1Ignored 0xC96E1B7D)
      ∧ decodeTableWord 48 0x090_C96E1B7D = some (.wrSnapFieldLo2Ignored 0xC96E1B7D)
      ∧ decodeTableWord 48 0x094_C96E1B7D = some (.wrSnapFieldHi2Ignored 0xC96E1B7D)
      ∧ decodeTableWord 48 0x098_C96E1B7D = some (.wrSnapFieldLo3Ignored 0xC96E1B7D)
      ∧ decodeTableWord 48 0x09C_C96E1B7D = some (.wrSnapFieldHi3Ignored 0xC96E1B7D)
      ∧ decodeTableWord 48 0x0A0_C96E1B7D = some (.wrSnapFieldLo4Ignored 0xC96E1B7D)
      ∧ decodeTableWord 48 0x0A4_C96E1B7D = some (.wrSnapFieldHi4Ignored 0xC96E1B7D)
      ∧ decodeTableWord 48 0x0A8_C96E1B7D = some (.wrSnapFieldLo5Ignored 0xC96E1B7D)
      ∧ decodeTableWord 48 0x0AC_C96E1B7D = some (.wrSnapFieldHi5Ignored 0xC96E1B7D)
      ∧ decodeTableWord 48 0x0B0_C96E1B7D = some (.wrSnapFieldLo6Ignored 0xC96E1B7D)
      ∧ decodeTableWord 48 0x0B4_C96E1B7D = some (.wrSnapFieldHi6Ignored 0xC96E1B7D)
      ∧ decodeTableWord 48 0x0B8_C96E1B7D = some (.wrSnapFieldLo7Ignored 0xC96E1B7D) := by decide

/-- Words of writes to read-only registers (R60, R74). -/
theorem test_decode_read_only_writes_2 :
    decodeTableWord 48 0x0BC_C96E1B7D = some (.wrSnapFieldHi7Ignored 0xC96E1B7D)
      ∧ decodeTableWord 48 0x0C0_C96E1B7D = some (.wrSnapFieldLo8Ignored 0xC96E1B7D)
      ∧ decodeTableWord 48 0x0C4_C96E1B7D = some (.wrSnapFieldHi8Ignored 0xC96E1B7D)
      ∧ decodeTableWord 48 0x0C8_C96E1B7D = some (.wrSnapFieldLo9Ignored 0xC96E1B7D)
      ∧ decodeTableWord 48 0x0CC_C96E1B7D = some (.wrSnapFieldHi9Ignored 0xC96E1B7D)
      ∧ decodeTableWord 48 0x0D0_C96E1B7D = some (.wrSnapFieldLo10Ignored 0xC96E1B7D)
      ∧ decodeTableWord 48 0x0D4_C96E1B7D = some (.wrSnapFieldHi10Ignored 0xC96E1B7D) := by decide

/-- Words of reserved offsets (R74). -/
theorem test_decode_reserved :
    decodeTableWord 48 0x044_C96E1B7D = some (.wrReserved044 0xC96E1B7D)
      ∧ decodeTableWord 16 0x044 = some .rdReserved044
      ∧ decodeTableWord 48 0x048_C96E1B7D = some (.wrReserved048 0x048 0xC96E1B7D)
      ∧ decodeTableWord 16 0x04C = some (.rdReserved048 0x04C)
      ∧ decodeTableWord 48 0x050_C96E1B7D = some (.wrReserved050 0x050 0xC96E1B7D)
      ∧ decodeTableWord 16 0x05C = some (.rdReserved050 0x05C)
      ∧ decodeTableWord 48 0x060_C96E1B7D = some (.wrReserved060 0x060 0xC96E1B7D)
      ∧ decodeTableWord 16 0x07C = some (.rdReserved060 0x07C)
      ∧ decodeTableWord 48 0x0D8_C96E1B7D = some (.wrReserved0D8 0x0D8 0xC96E1B7D)
      ∧ decodeTableWord 16 0x0DC = some (.rdReserved0D8 0x0DC)
      ∧ decodeTableWord 48 0x0E0_C96E1B7D = some (.wrReserved0E0 0x0E0 0xC96E1B7D)
      ∧ decodeTableWord 16 0x0FC = some (.rdReserved0E0 0x0FC)
      ∧ decodeTableWord 48 0x1A0_C96E1B7D = some (.wrReserved100 0x1A0 0xC96E1B7D)
      ∧ decodeTableWord 16 0x17C = some (.rdReserved100 0x17C)
      ∧ decodeTableWord 48 0x3A0_C96E1B7D = some (.wrReserved200 0x3A0 0xC96E1B7D)
      ∧ decodeTableWord 16 0x37C = some (.rdReserved200 0x37C)
      ∧ decodeTableWord 48 0x5A0_C96E1B7D = some (.wrReserved400 0x5A0 0xC96E1B7D)
      ∧ decodeTableWord 16 0x77C = some (.rdReserved400 0x77C)
      ∧ decodeTableWord 48 0xDA0_C96E1B7D = some (.wrReserved800 0xDA0 0xC96E1B7D)
      ∧ decodeTableWord 16 0xB7C = some (.rdReserved800 0xB7C) := by decide

/-- Words of misaligned transactions (R72). -/
theorem test_decode_misaligned :
    decodeTableWord 48 0x5A3_C96E1B7D = some (.wrMisalignedOff0 0x5A3 0xC96E1B7D)
      ∧ decodeTableWord 16 0xB7D = some (.rdMisalignedOff0 0xB7D)
      ∧ decodeTableWord 48 0x5A2_C96E1B7D = some (.wrMisalignedOff1 0x5A2 0xC96E1B7D)
      ∧ decodeTableWord 16 0xB7E = some (.rdMisalignedOff1 0xB7E) := by decide

/-- Words of host reads (R60). -/
theorem test_decode_reads_1 :
    decodeTableWord 16 0x000 = some .rdCfg
      ∧ decodeTableWord 16 0x004 = some .rdCtrl
      ∧ decodeTableWord 16 0x008 = some .rdStatus
      ∧ decodeTableWord 16 0x00C = some .rdInvalidCount
      ∧ decodeTableWord 16 0x010 = some .rdErrCause
      ∧ decodeTableWord 16 0x014 = some .rdBtnEnable
      ∧ decodeTableWord 16 0x018 = some .rdCmd
      ∧ decodeTableWord 16 0x01C = some .rdSlotPending
      ∧ decodeTableWord 16 0x020 = some .rdSlotHolding
      ∧ decodeTableWord 16 0x024 = some .rdDelivered
      ∧ decodeTableWord 16 0x028 = some .rdFailed
      ∧ decodeTableWord 16 0x02C = some .rdSnap
      ∧ decodeTableWord 16 0x030 = some .rdSnapNowLo
      ∧ decodeTableWord 16 0x034 = some .rdSnapNowHi
      ∧ decodeTableWord 16 0x038 = some .rdSnapLastUpdateLo
      ∧ decodeTableWord 16 0x03C = some .rdSnapLastUpdateHi
      ∧ decodeTableWord 16 0x040 = some .rdSnapValid
      ∧ decodeTableWord 16 0x080 = some .rdSnapFieldLo0
      ∧ decodeTableWord 16 0x084 = some .rdSnapFieldHi0
      ∧ decodeTableWord 16 0x088 = some .rdSnapFieldLo1
      ∧ decodeTableWord 16 0x08C = some .rdSnapFieldHi1
      ∧ decodeTableWord 16 0x090 = some .rdSnapFieldLo2
      ∧ decodeTableWord 16 0x094 = some .rdSnapFieldHi2
      ∧ decodeTableWord 16 0x098 = some .rdSnapFieldLo3 := by decide

/-- Words of host reads (R60). -/
theorem test_decode_reads_2 :
    decodeTableWord 16 0x09C = some .rdSnapFieldHi3
      ∧ decodeTableWord 16 0x0A0 = some .rdSnapFieldLo4
      ∧ decodeTableWord 16 0x0A4 = some .rdSnapFieldHi4
      ∧ decodeTableWord 16 0x0A8 = some .rdSnapFieldLo5
      ∧ decodeTableWord 16 0x0AC = some .rdSnapFieldHi5
      ∧ decodeTableWord 16 0x0B0 = some .rdSnapFieldLo6
      ∧ decodeTableWord 16 0x0B4 = some .rdSnapFieldHi6
      ∧ decodeTableWord 16 0x0B8 = some .rdSnapFieldLo7
      ∧ decodeTableWord 16 0x0BC = some .rdSnapFieldHi7
      ∧ decodeTableWord 16 0x0C0 = some .rdSnapFieldLo8
      ∧ decodeTableWord 16 0x0C4 = some .rdSnapFieldHi8
      ∧ decodeTableWord 16 0x0C8 = some .rdSnapFieldLo9
      ∧ decodeTableWord 16 0x0CC = some .rdSnapFieldHi9
      ∧ decodeTableWord 16 0x0D0 = some .rdSnapFieldLo10
      ∧ decodeTableWord 16 0x0D4 = some .rdSnapFieldHi10 := by decide

/-- Words of bus events (R98). -/
theorem test_decode_events :
    decodeTableWord 8 0b01001 = some (.idleLine true false true)
      ∧ decodeTableWord 8 0b01101 = some (.csAssert true false true)
      ∧ decodeTableWord 8 0b11001 = some (.csDeassert true false true)
      ∧ decodeTableWord 8 0b10111 = some (.bit true)
      ∧ decodeTableWord 8 0b10101 = some (.heldInactive true)
      ∧ decodeTableWord 8 0b11101 = some (.heldReturn true)
      ∧ decodeTableWord 8 0b11111 = some (.heldActive true) := by decide

/-! ### The fixture -/

/-- Even parity of the 16 bits of a frame, the fixture's `ck` (`95_test_vectors.md` Part 2). -/
def parity : BitFormula := .xor (.const true) ((List.range 16).foldl (fun a i => .xor a (.bit i)) (.const false))

/-- Eight bits, most significant first. -/
def code (v : Nat) : List Bool := (List.range 8).map fun i => v.testBit (7 - i)

/-- The fixture profile EXP of `95_test_vectors.md` Part 2, but that every temperature pattern is recognised. -/
def exp : Profile where
  frameBitCount := 16
  bitOrder := .msbFirst
  clockEdgePolarity := .rising
  fieldOffsets :=
    { currentTemperature := some (0, 8), targetTemperature := none, heating := some (8, 1), filter := some (9, 1),
      bubbles := some (10, 1), jets := some (11, 1), locked := some (12, 1), power := some (13, 1),
      error := some (14, 1), errorCode := none, displayText := none }
  checksumRule := some parity
  csActiveLevel := false
  recognisesCurrentTemperature := .const true
  recognisesTargetTemperature := .const false
  recognisesErrorCode := .const false
  recognisesDisplayText := .const false
  decodeRule := 0
  buttonCode := .ofFn fun b => if b = .unit then none else some (code (0xA0 + b.code))
  keepaliveCode := List.replicate 8 false
  tLead := 1
  tHalf := 1
  tLag := 1
  idleGap := 3
  deliveryTimeout := 40
  maxHold := 30
  hibernateTimeout := 50

/-- A block just started with `exp` in topology `t`, every button but jets enabled, with inputs `l` to come. -/
def started (t : BitVec 2) (l : List Input) : State :=
  { State.reset with
    run := .running exp
    cfg := { topology := t, model := 0, hibEn := false }
    btnEnable := 0x3F7
    env := { pending := l, rst := false, sampleIdx := 0 } }

/-- The reset block with inputs `l` to come. -/
def fresh (l : List Input) : State := { State.reset with env := { pending := l, rst := false, sampleIdx := 0 } }

/-- The CIO bus at rest under `exp`. -/
def rest : Sample := { clk := false, dat := false, cs := true }

/-- One field of the next state. -/
def after {α : Type} (o : Host.Outcome State Fault Refusal) (f : State → α) : Option α :=
  match o with
  | .next s => some (f s)
  | .fault _ => none
  | .refused _ => none

/-- A slot in state `k` since time `e`, holding since `h`. -/
def slot (k : SlotState) (e h : Word64) : Slot := { state := k, enqTime := e, holdStart := h, emitted := false }

/-- A block whose decoder has 15 of the 16 bits of frame A (`V = 0010 1101 1100 000`, `95_test_vectors.md` Part 2). -/
def nearlyComplete : State :=
  { started 1 [] with
    dec := { raw := 0b0000001110110100, state := .accumulating, bitCnt := 15, invalidCount := 0, errCause := 0 } }

/-- An accumulating decoder with no bit yet. -/
def accumulating : State :=
  { started 1 [] with dec := { raw := 0, state := .accumulating, bitCnt := 0, invalidCount := 0, errCause := 0 } }

/-- A block in an idle window in phase 3, with the heater's slot in state `k`. -/
def window (k : SlotState) : State :=
  { started 0 [] with
    slots := State.reset.slots.set .heater (slot k 0 0)
    sig := { TickSignals.none with idleLine := true } }

/-- A transmission that has just started. -/
def sending : Serializer := { state := .lead, timer := 1, idx := 0, len := 8, buf := 0x05, src := .cmd }

/-! ### One operation, values from the spec -/

/-- R192's example: `WR CMD, 0x00000040` sets BAD_CMD; the host clears it by bit 4 of STATUS and by no other bit (R287). -/
theorem test_bad_command :
    after (exec (decode (.hostWrite 0x018_00000040)) (started 0 [])) (·.badCmd) = some true
      ∧ after (exec (.wrStatus 0x10) { started 0 [] with badCmd := true }) (·.badCmd) = some false
      ∧ after (exec (.wrStatus 0xFFFFFFEF) { started 0 [] with badCmd := true }) (·.badCmd) = some true := by decide

/-- Program 2: PRESS heater is accepted with ENQ_TIME NOW, PRESS jets is refused with FAILED = 0x008. -/
theorem test_press :
    after (exec .pressHeater { started 0 [] with now := 7 }) (fun t => (t.slots.heater.state, t.slots.heater.enqTime, t.failed))
        = some (.pendingPress, 7, 0)
      ∧ after (exec .pressJets (started 0 [])) (fun t => (t.slots.jets.state, t.failed)) = some (.empty, 0x008)
      ∧ after (exec .pressUnit (started 0 [])) (fun t => (t.slots.unit.state, t.failed)) = some (.empty, 0x040)
      ∧ after (exec .pressHeater (fresh [])) (·.failed) = some 0x001 := by decide

/-- HOLD up (program 3), and RELEASE up whatever the gate (R195). -/
theorem test_hold_release :
    after (exec .holdUp (started 0 [])) (·.slots.up.state) = some .pendingHold
      ∧ after (exec .releaseUp { started 0 [] with btnEnable := 0, slots := State.reset.slots.set .up (slot .holding 0 0) })
          (fun t => (t.slots.up.state, t.failed, t.delivered)) = some (.empty, 0, 0) := by decide

/-- CFG in Config and nowhere else (R280), its read-back (R177), and topology 3 failing to start (R281, R284). -/
theorem test_configuration :
    after (exec (.wrCfg 0xFFFEABFE) (fresh [])) (fun t => (t.cfg.topology, t.cfg.model, t.cfg.hibEn)) = some (2, 0xAB, false)
      ∧ after (exec (.wrCfg 0xFFFFFFFF) (started 1 [])) (·.cfg) = some (started 1 []).cfg
      ∧ after (exec .rdCfg { fresh [] with cfg := { topology := 2, model := 3, hibEn := true } }) (·.port.rdata)
          = some (some 0x00010302)
      ∧ after (exec (.wrCtrlStart 1) { fresh [] with cfg := { topology := 3, model := 0, hibEn := false } }) (·.run)
          = some .configError := by decide

/-- BTN_ENABLE keeps ten bits (R286), and the write-one-to-clear masks clear their bits only (R288, R289). -/
theorem test_masks :
    after (exec (.wrBtnEnable 0xFFFFF7F7) (fresh [])) (·.btnEnable) = some 0x3F7
      ∧ after (exec (.wrDelivered 0x001) { fresh [] with delivered := 0x003 }) (·.delivered) = some 0x002
      ∧ after (exec (.wrFailed 0x008) { fresh [] with failed := 0x3FF }) (·.failed) = some 0x3F7 := by decide

/-- STATUS: RUNNING after START (R282's example), CFG_ERROR (R284's example), and every other bit (R61). -/
theorem test_status :
    after (exec .rdStatus (started 0 [])) (·.port.rdata) = some (some 0x00000001)
      ∧ after (exec .rdStatus { fresh [] with run := .configError }) (·.port.rdata) = some (some 0x00000002)
      ∧ after (exec .rdStatus
          { accumulating with
            ser := sending, smp := { State.reset.smp with busIdle := true }, badCmd := true, rePending := true })
          (·.port.rdata) = some (some 0x0000013D) := by decide

/-- SLOT_PENDING and SLOT_HOLDING (R182, R183), ERR_CAUSE and INVALID_COUNT (R179, R180). -/
theorem test_live_reads :
    after (exec .rdSlotPending { started 0 [] with slots := State.reset.slots.set .down (slot .pendingHold 0 0) })
          (·.port.rdata) = some (some 0x200)
      ∧ after (exec .rdSlotHolding { started 0 [] with slots := State.reset.slots.set .up (slot .holding 0 0) })
          (·.port.rdata) = some (some 0x100)
      ∧ after (exec .rdErrCause { started 0 [] with dec := { State.reset.dec with errCause := 2 } }) (·.port.rdata)
          = some (some 2)
      ∧ after (exec .rdInvalidCount { started 0 [] with dec := { State.reset.dec with invalidCount := 5 } }) (·.port.rdata)
          = some (some 5) := by decide

/-- SNAP copies the bank and NOW (R174); SNAP_VALID after program 1 (R188's example); the halves (R73). -/
theorem test_snapshot :
    after (exec (.wrSnap 0) { started 1 [] with now := 36, bank := { State.reset.bank with lastUpdate := 33 } })
          (fun t => (t.snap.now, t.snap.lastUpdate)) = some (36, 33)
      ∧ after (exec .rdSnapValid
          { started 1 [] with
            snap :=
              { State.reset.snap with
                known := .ofFn fun f => f == .currentTemperature || f.isFlag
                lastUpdateValid := true, lastFrameValid := true } }) (·.port.rdata) = some (some 0x000301FD)
      ∧ after (exec .rdSnapFieldHi10
          { started 1 [] with snap := { State.reset.snap with raw := .ofFn fun _ => 0x123456789ABCDEF0 } }) (·.port.rdata)
          = some (some 0x12345678) := by decide

/-- Misaligned transactions are refused (R72). -/
theorem test_misaligned_refused :
    (match exec (.rdMisalignedOff1 0x006) (fresh []) with | .refused r => decide (r = .misalignedTransaction 0x006) | _ => false)
      = true := by decide

/-- R125's example: previous (0, 1, 0), current (1, 1, 0) give 0b10111; and R131's: previous (0, 1, 1) gives CS_ASSERT. -/
theorem test_event_words :
    eventWord exp ⟨false, true, false⟩ ⟨true, true, false⟩ = 0b10111#5
      ∧ decode (.busEvent (eventWord exp ⟨false, true, true⟩ ⟨true, true, false⟩)) = .csAssert false true true := by decide

/-- The last bit of frame A applies it (FD-1: FIELD_RAW[0] = 0x2D, heating and filter 1, bubbles 0). -/
theorem test_frame_applied :
    after (exec (.bit false) nearlyComplete)
        (fun t => (t.bank.raw.currentTemperature, t.bank.raw.heating, t.bank.raw.filter, t.bank.raw.bubbles, t.dec.state))
      = some (0x2D, 1, 1, 0, .idle)
      ∧ after (exec (.bit false) nearlyComplete)
        (fun t => (t.bank.known.targetTemperature, t.bank.lastFrame, t.sig.frameEnd)) = some (false, 0b0000001110110100, true) := by
  decide

/-- Its last bit flipped fails the checksum: the bank is untouched, INVALID_COUNT counts, ERR_CAUSE is 2 (FD-3). -/
theorem test_frame_dropped :
    after (exec (.bit true) nearlyComplete) (fun t => (t.bank, t.dec.invalidCount, t.dec.errCause, t.dec.state))
      = some (State.reset.bank, 1, 2, .idle) := by decide

/-- Chip-select deasserting after 0 bits is a framing error (R147); a bit in Idle is ignored (R143); CS_ASSERT starts a
frame (R142). -/
theorem test_frame_edges :
    after (exec (.csDeassert false false true) accumulating) (fun t => (t.dec.invalidCount, t.dec.errCause, t.dec.state))
        = some (1, 1, .idle)
      ∧ after (exec (.bit true) (started 1 [])) id = some (started 1 [])
      ∧ after (exec (.csAssert true true true) (started 1 [])) (·.dec) = some accumulating.dec
      ∧ after (exec (.bit true) accumulating) (fun t => (t.dec.raw, t.dec.bitCnt)) = some (1, 1) := by decide

/-- The four events that change nothing (R145). -/
theorem test_waiting_events :
    after (exec (.idleLine true true true) accumulating) id = some accumulating
      ∧ after (exec (.heldInactive true) accumulating) id = some accumulating
      ∧ after (exec (.heldReturn true) accumulating) id = some accumulating
      ∧ after (exec (.heldActive true) accumulating) id = some accumulating := by decide

/-- R196's example: the gate of heater cleared while PendingPress gives FAILED = 0x001. -/
theorem test_gate :
    (gate { window .pendingPress with btnEnable := 0 }).failed = 0x001
      ∧ (gate { window .holding with btnEnable := 0 }).failed = 0
      ∧ (gate { window .holding with btnEnable := 0 }).slots.heater.state = .empty := by decide

/-- A hold started at 2 with `max_hold = 30` expires at 32 (R197's example); a command of time 0 with `delivery_timeout = 40`
fails at 39 (CI-5). -/
theorem test_times :
    holdExpired exp 31 (slot .holding 0 2) = false ∧ holdExpired exp 32 (slot .holding 0 2) = true
      ∧ deliveryExpired exp 38 (slot .pendingPress 0 0) = false ∧ deliveryExpired exp 39 (slot .pendingPress 0 0) = true := by
  decide

/-- The heater's code 0xA0 enters the serializer (program 2, tick 2): bits 1,0,1,0,0,0,0,0 in that order. -/
theorem test_drain :
    (drain exp (window .pendingPress)).ser = sending
      ∧ (drain exp (window .pendingPress)).delivered = 0x001
      ∧ (drain exp (window .pendingHold)).slots.heater.state = .holding := by decide

/-- R237's example: 16 bits with L = H = G = 1 end 34 ticks after the start. -/
theorem test_transmission_length : transmissionTicks exp 16 = 34 := by decide

/-! ### One step -/

/-- The first Running tick (R335): a history load, NOW = 1 after it, DSP_OE = 1 in a 6-wire topology. -/
theorem test_first_tick :
    after (step (started 1 [.clock rest])) (fun t => (t.now, t.smp.prevValid, t.smp.quietCnt, t.out.dspOe)) =
      some (1, true, 1, true) := by decide

/-- A masked tick (R121, R268): DSP_OE in FourWire, so the sample is discarded. -/
theorem test_masked_tick :
    after (step
        { started 0 [.clock rest] with
          ser := sending, out := { State.reset.out with dspOe := true }, smp := { State.reset.smp with prevValid := true } })
        (fun t => (t.smp.prevValid, t.ser.state, t.out.dspOe)) = some (false, .first, true) := by decide

/-- A tick whose event is BIT(0) completes frame A and starts its re-encode in the same tick (R260's example). -/
theorem test_reencode_tick :
    after (step
        { nearlyComplete with
          smp := { State.reset.smp with prevValid := true, prev := ⟨false, false, false⟩ }
          env := { pending := [.clock ⟨true, false, false⟩], rst := false, sampleIdx := 0 } })
        (fun t => (t.ser.state, t.ser.src, t.ser.buf, t.rePending)) = some (.lead, .re, 0b0000001110110100, false) := by decide

/-- A clock edge with RST asserted resets; a transaction under reset has no effect (R330), and is refused where it is misaligned
or not 32 bits wide (R72). -/
theorem test_reset :
    after (step { nearlyComplete with env := { pending := [.clock rest], rst := true, sampleIdx := 0 } })
        (fun t => decide ({ t with env := State.reset.env } = State.reset)) = some true
      ∧ after (step { nearlyComplete with env := { pending := [.write 4 0x018_00000040], rst := true, sampleIdx := 0 } })
        (·.badCmd) = some false
      ∧ step { State.reset with env := { pending := [.read 4 0x002], rst := true, sampleIdx := 0 } } =
        .refused (.misalignedTransaction 0x002)
      ∧ step { State.reset with env := { pending := [.write 2 0x000_00000000], rst := true, sampleIdx := 0 } } =
        .refused (.transactionWidth 2) := by
  refine ⟨by decide, by decide, rfl, rfl⟩

/-- A word placed by `withFetchWord` is what the very next step runs, one of each class. -/
theorem test_fetch_word :
    after (step (State.reset.withFetchWord 48 0x014_00000155)) (·.btnEnable) = some 0x155
      ∧ after (step (State.reset.withFetchWord 16 0x008)) (·.port.rdata) = some (some 0)
      ∧ after (step (State.reset.withFetchWord 8 0b00100)) (fun t => (t.dec.state, t.now)) = some (.accumulating, 1) := by
  decide

/-! ### A state for the hypotheses of each statement -/

theorem next_of_completes {o : Host.Outcome State Fault Refusal} (h : completes o = true) : ∃ t, o = .next t := by
  cases o with
  | next t => exact ⟨t, rfl⟩
  | fault r => cases h
  | refused r => cases h

/-- The just started block meets the invariant. -/
theorem started_inv (l : List Input) : Inv (started 1 l) where
  settled := rfl
  signals := rfl
  cause := by simp [started, State.reset]
  mute := rfl
  validity := rfl
  running := fun p hp => by
    cases hp
    exact
      { profile := by decide
        topology := show (1 : BitVec 2) ≠ 3 by decide
        bits := fun h => by cases h
        codes := fun b hb => absurd (by cases b <;> rfl) hb
        serializer := ⟨fun _ => ⟨rfl, rfl⟩, fun h => absurd rfl h⟩
        fourWire := fun h => absurd h (show (1 : BitVec 2) ≠ 0 by decide)
        bank := fun h => by cases h }
  stopped := fun h => by cases h

theorem witness_DecodeOfEncodeIsIdentity :
    (Instr.wrCtrlStart 1).wf = true ∧ (Instr.wrCmdIllegalBit31 0x8000003F).wf = true ∧ (Instr.wrReserved800 0xFFC 0).wf = true := by
  decide

/-- The seven cases of R125 under `exp`, in the statement's order. -/
theorem witness_EventWordClassification :
    decode (.busEvent (eventWord exp ⟨false, false, true⟩ ⟨true, false, false⟩)) = .csAssert false true false
      ∧ decode (.busEvent (eventWord exp ⟨true, false, false⟩ ⟨false, true, true⟩)) = .csDeassert true false true
      ∧ decode (.busEvent (eventWord exp ⟨true, false, true⟩ ⟨true, true, true⟩)) = .idleLine true true true
      ∧ decode (.busEvent (eventWord exp ⟨false, false, false⟩ ⟨true, true, false⟩)) = .bit true
      ∧ decode (.busEvent (eventWord exp ⟨false, false, false⟩ ⟨false, true, false⟩)) = .heldInactive true
      ∧ decode (.busEvent (eventWord exp ⟨true, false, false⟩ ⟨false, true, false⟩)) = .heldReturn true
      ∧ decode (.busEvent (eventWord exp ⟨true, false, false⟩ ⟨true, true, false⟩)) = .heldActive true := by decide

theorem witness_StepRunsHostTransaction :
    (fresh [.write 4 0xFFC_00000000]).env.rst = false
      ∧ (fresh [.write 4 0xFFC_00000000]).env.pending = .write 4 0xFFC_00000000 :: []
      ∧ (fresh [.read 4 0x000]).env.pending = .read 4 0x000 :: [] := by decide

/-- A Running tick with a previous sample, unmasked in a 6-wire topology though DSP_OE = 1, and in FourWire; a history-load tick
and a masked one; and phase 5 in the tick of a start and in another. -/
theorem witness_StepRunsBusEvent :
    TickDue exp rest []
        { started 1 [.clock rest] with
          smp := { State.reset.smp with prevValid := true }, out := { State.reset.out with dspOe := true } }
      ∧ TickDue exp rest [] { started 0 [.clock rest] with smp := { State.reset.smp with prevValid := true } }
      ∧ (started 0 [.clock rest]).out.dspOe = false
      ∧ TickDue exp rest [] (started 1 [.clock rest]) ∧ (started 1 [.clock rest]).smp.prevValid = false
      ∧ TickDue exp rest [] { started 0 [.clock rest] with out := { State.reset.out with dspOe := true } }
      ∧ ({ window .empty with sig := { TickSignals.none with serNew := true } } : State).sig.serNew = true
      ∧ (window .empty).sig.serNew = false :=
  ⟨⟨rfl, rfl, rfl, rfl⟩, ⟨rfl, rfl, rfl, rfl⟩, rfl, ⟨rfl, rfl, rfl, rfl⟩, rfl, ⟨rfl, rfl, rfl, rfl⟩, rfl, rfl⟩

theorem witness_TransactionsOutsideTheContractAreRefused :
    (fresh [.write 1 (0x000#12 ++ 0#32)]).env.pending = .write 1 (0x000#12 ++ 0#32) :: []
      ∧ (fresh [.read 4 0xFFF]).env.pending = .read 4 0xFFF :: []
      ∧ ({ fresh [] with env := { pending := [.read 4 0x002], rst := true, sampleIdx := 0 } } : State).env.pending =
        .read 4 0x002 :: []
      ∧ .wrMisalignedOff1 0x002 0 ∈ misalignedRows 0x002 0 ∧ (0x001 : Offset).extractLsb' 0 2 ≠ 0
      ∧ (0xFFF : Offset).extractLsb' 0 2 ≠ 0 := by decide

/-- A tick of each kind: a history load, a masked tick, and one with an event. -/
theorem witness_RunningTickCompletes :
    TickDue exp rest [] (started 1 [.clock rest]) ∧ (started 1 [.clock rest]).smp.prevValid = false
      ∧ TickDue exp rest [] { started 0 [.clock rest] with out := { State.reset.out with dspOe := true } } :=
  ⟨⟨rfl, rfl, rfl, rfl⟩, rfl, ⟨rfl, rfl, rfl, rfl⟩⟩

theorem witness_NothingStopsAContractKeepingHost :
    Inv (started 1 [.write 4 0xFFC_00000000, .clock rest])
      ∧ hostKeepsContract (started 1 [.write 4 0xFFC_00000000, .clock rest]) = true := ⟨started_inv _, by decide⟩

theorem witness_EveryRegisterReadsZeroAfterReset :
    (0x000 : Offset).extractLsb' 0 2 = 0 ∧ (0xFFC : Offset).extractLsb' 0 2 = 0 := by decide

theorem witness_ResetTakenAtClockEdge :
    ({ nearlyComplete with env := { pending := [.clock rest], rst := true, sampleIdx := 0 } } : State).env.rst = true
      ∧ ({ nearlyComplete with
            env := { pending := [.write 4 (0xFFC#12 ++ 0#32)], rst := true, sampleIdx := 0 } } : State).env.rst = true
      ∧ ({ nearlyComplete with env := { pending := [.read 4 8], rst := true, sampleIdx := 0 } } : State).env.rst = true
      ∧ (0xFFC : Offset).extractLsb' 0 2 = 0 ∧ (8 : Offset).extractLsb' 0 2 = 0 := by
  decide

theorem witness_StoppedTickDoesNothing :
    (fresh [.clock rest]).run.isRunning = false ∧ (fresh [.clock rest]).env.rst = false
      ∧ (fresh [.clock rest]).env.pending = .clock rest :: [] := by decide

/-- Config, and each of the other two run states (`CfgWriteOnlyInConfig`, `StartLatchesOrFails`, `StartElsewhereIgnored`). -/
theorem witness_Start :
    (fresh []).run = .config ∧ (started 1 []).run ≠ .config
      ∧ ({ fresh [] with run := .configError } : State).run ≠ .config
      ∧ (1 : Word).getLsbD 0 = true ∧ (0xFFFFFFFE : Word).getLsbD 0 = false := by decide

theorem witness_IgnoredWritesChangeNothing :
    (0x030 : Offset).extractLsb' 0 2 = 0 ∧ 0x030 ≤ (0x030 : Offset).toNat ∧ (0xFFC : Offset).extractLsb' 0 2 = 0
      ∧ 0x030 ≤ (0xFFC : Offset).toNat ∧ decode (.hostWrite 0x030_00000000) ∈ readOnlyWriteRows 0
      ∧ decode (.hostWrite 0xFFC_00000000) ∈ reservedWriteRows 0xFFC 0 := by decide

theorem witness_WriteOnlyAndReservedReadZero :
    .rdSnap ∈ zeroReadRows 0x02C ∧ .rdReserved800 0xFFC ∈ zeroReadRows 0xFFC := by decide

theorem witness_ReadsHaveNoSideEffect :
    (0x000 : Offset).extractLsb' 0 2 = 0 ∧ (0xFFC : Offset).extractLsb' 0 2 = 0 := by decide

/-- Words of each kind at the edges: reserved bits 6 and 31, buttons 9 and 10, the four actions. -/
theorem witness_CommandWriteFollowsItsWord :
    (0x00000040 : Word).extractLsb' 6 26 ≠ 0 ∧ (0x80000000 : Word).extractLsb' 6 26 ≠ 0
      ∧ 9 < ((0x0000000A : Word).extractLsb' 0 4).toNat ∧ ((0x00000030 : Word).extractLsb' 4 2).toNat = 3
      ∧ (0x00000029 : Word).extractLsb' 6 26 = 0 ∧ ((0x00000029 : Word).extractLsb' 0 4).toNat = ButtonId.down.code
      ∧ ((0x00000029 : Word).extractLsb' 4 2).toNat = 2 ∧ ((0x00000010 : Word).extractLsb' 4 2).toNat < 2
      ∧ ((0x00000010 : Word).extractLsb' 0 4).toNat = ButtonId.heater.code := by decide

/-- An accepted command, and one refused for each of R192's three reasons (`PressHoldReleaseEffects`,
`CommandWriteFollowsItsWord`, `RepeatedPressIsOnePress`). -/
theorem witness_Commands :
    CanCommand exp .heater (started 0 []) ∧ CanCommand exp .down (started 0 [])
      ∧ CannotCommand .heater (fresh []) ∧ CannotCommand .jets (started 0 []) ∧ CannotCommand .unit (started 0 []) :=
  ⟨⟨rfl, by decide, by decide⟩, ⟨rfl, by decide, by decide⟩, .inl fun p h => (by cases h), .inr (.inl (by decide)),
    .inr (.inr ⟨exp, rfl, by decide⟩)⟩

theorem witness_IllegalCommandSetsBadCmd : .wrCmdIllegalButton12 2 3 ∈ illegalCommandRows 0 2 0 3 0 := by decide

/-- An enabled button; a disabled one with a pending command, a hold, and nothing. -/
theorem witness_GateDropsDisabledCommands :
    (window .pendingPress).btnEnable.getLsbD ButtonId.heater.code = true
      ∧ ({ window .pendingHold with btnEnable := 0 } : State).btnEnable.getLsbD ButtonId.heater.code = false := by decide

theorem witness_HoldExpiresAtItsMaximum :
    ((slot .holding 0 2).state = .holding ∧ exp.maxHold ≤ ((32 : Word64) - (slot .holding 0 2).holdStart).toNat)
      ∧ ¬((slot .holding 0 2).state = .holding ∧ exp.maxHold ≤ ((31 : Word64) - (slot .holding 0 2).holdStart).toNat) := by decide

/-- No window; and a window with each kind of eligible slot. -/
theorem witness_DrainServesTheLeastEligible :
    (started 0 []).sig.idleLine = false ∧ (window .pendingPress).sig.idleLine = true
      ∧ (window .pendingPress).ser.state = .idle ∧ ((window .pendingPress).slots.get .heater).state = .pendingPress
      ∧ ((window .pendingHold).slots.get .heater).state = .pendingHold
      ∧ ((window .holding).slots.get .heater).state = .holding ∧ ((window .holding).slots.get .heater).emitted = false
      ∧ exp.buttonCode.get .heater = some (code 0xA0) ∧ (code 0xA0).length ≤ 64 := by decide

theorem witness_DeliveryTimesOut :
    (none : Option ButtonId) ≠ some .heater ∧ ((window .pendingPress).slots.get .heater).state = .pendingPress
      ∧ exp.deliveryTimeout - 1 ≤ ((39 : Word64) - ((window .pendingPress).slots.get .heater).enqTime).toNat
      ∧ ¬exp.deliveryTimeout - 1 ≤ ((38 : Word64) - ((window .pendingPress).slots.get .heater).enqTime).toNat := by decide

/-- Ticks with activity, without, at the saturated counter, masked, and loading the history; and an event that completes. -/
theorem witness_SamplerStateAfterATick :
    TickDue exp rest [] { started 1 [.clock rest] with smp := ⟨true, ⟨true, false, true⟩, 0xFFFFFFFF, false⟩ }
      ∧ TickDue exp rest [] { started 1 [.clock rest] with smp := ⟨true, rest, 0xFFFFFFFF, false⟩ }
      ∧ TickDue exp rest [] { started 0 [.clock rest] with out := { State.reset.out with dspOe := true } }
      ∧ (⟨true, false, true⟩ : Sample) ≠ rest
      ∧ TickDue exp rest [] (started 1 [.clock rest]) ∧ (started 1 [.clock rest]).smp.prevValid = false
      ∧ ∃ t, exec (decode (.busEvent 0b00100)) (tickHead exp rest (started 1 [])) = .next t :=
  ⟨⟨rfl, rfl, rfl, rfl⟩, ⟨rfl, rfl, rfl, rfl⟩, ⟨rfl, rfl, rfl, rfl⟩, by decide, ⟨rfl, rfl, rfl, rfl⟩, rfl,
    next_of_completes (by decide)⟩

/-- Activity opens a new window: a hold that has emitted may emit again (R127, program 3); a quiet tick leaves it. -/
theorem test_window_flag :
    (tickHead exp rest
        { started 1 [] with
          smp := ⟨true, ⟨true, false, true⟩, 5, false⟩, slots := State.reset.slots.set .up ⟨.holding, 0, 2, true⟩ }).slots.up.emitted
        = false
      ∧ (tickHead exp rest
        { started 1 [] with
          smp := ⟨true, rest, 5, false⟩, slots := State.reset.slots.set .up ⟨.holding, 0, 2, true⟩ }).slots.up.emitted
        = true := by decide

/-- Running blocks with the decoder Idle and Accumulating (`ChipSelectAssertStartsAFrame`, `DecoderIgnoresTheOtherEvents`,
`EarlyDeassertIsAFramingError`). -/
theorem witness_Decoder :
    (started 1 []).run = .running exp ∧ (started 1 []).dec.state = .idle ∧ (started 1 []).dec.state.settled = true
      ∧ accumulating.run = .running exp ∧ accumulating.dec.state = .accumulating
      ∧ .heldActive true ∈ idleAndHeldRows false false true := by decide

theorem witness_BitIsStoredAtItsArrivalIndex :
    accumulating.run = .running exp ∧ exp.wf = true ∧ accumulating.dec.state = .accumulating
      ∧ accumulating.dec.bitCnt.toNat + 1 < exp.frameBitCount
      ∧ (14 : BitVec 9).toNat + 1 < exp.frameBitCount := by decide

theorem bit_beyond {i : Nat} {v : FrameBits} (h : ¬i < 16) (hv : v.toNat < 2 ^ 16) : v.getLsbD i = false :=
  Nat.testBit_lt_two_pow (hv.trans_le (Nat.pow_le_pow_right (by decide) (Nat.le_of_not_lt h)))

/-- The 16 bits of frame A, with its last bit right and flipped (`LastBitAppliesAGoodFrame`, `LastBitDropsABadFrame`), under the
parity rule of `exp` and under no rule; a mapped and an unmapped field, and boolean fields at the ends of their range. -/
theorem witness_LastBit :
    nearlyComplete.run = .running exp ∧ exp.wf = true ∧ nearlyComplete.dec.state = .accumulating
      ∧ nearlyComplete.dec.bitCnt.toNat + 1 = exp.frameBitCount
      ∧ (exp.checksumRule = some parity ∧ ({ exp with checksumRule := none } : Profile).wf = true
        ∧ exp.fieldOffsets.get .heating = some (8, 1) ∧ exp.fieldOffsets.get .errorCode = none
        ∧ FieldId.heating.code = 2 ∧ FieldId.error.code = 8)
      ∧ parity.eval (fun i => (0b0000001110110100 : FrameBits).getLsbD i) = true
      ∧ parity.eval (fun i => (0b1000001110110100 : FrameBits).getLsbD i) = false
      ∧ (∀ i, (0b0000001110110100 : FrameBits).getLsbD i =
          (decide (i < exp.frameBitCount) &&
            if i = nearlyComplete.dec.bitCnt.toNat then false else nearlyComplete.dec.raw.getLsbD i))
      ∧ ∀ i, (0b1000001110110100 : FrameBits).getLsbD i =
          (decide (i < exp.frameBitCount) &&
            if i = nearlyComplete.dec.bitCnt.toNat then true else nearlyComplete.dec.raw.getLsbD i) := by
  refine ⟨rfl, by decide, rfl, by decide, by decide, by decide, by decide, fun i => ?_, fun i => ?_⟩
  all_goals by_cases h : i < 16
  · revert i; decide
  · exact (bit_beyond h (by decide)).trans (by rw [decide_eq_false (show ¬i < exp.frameBitCount from h), Bool.false_and])
  · revert i; decide
  · exact (bit_beyond h (by decide)).trans (by rw [decide_eq_false (show ¬i < exp.frameBitCount from h), Bool.false_and])

/-- The pattern 0x2D in eight bits, in either order. -/
theorem witness_AssembleRecoversThePattern :
    8 ≤ 64 ∧ 0x2D < 2 ^ 8
      ∧ (∀ j < 8, (0b10110100 : FrameBits).getLsbD (0 + j) = (0x2D : Nat).testBit (8 - 1 - j))
      ∧ ∀ j < 8, (0b00101101 : FrameBits).getLsbD (0 + j) = (0x2D : Nat).testBit j := by decide

/-- A transmission in progress, across a tick and across a host write; and ticks that find the serializer Idle: with a re-encode
owed, and with the keep-alive due. -/
theorem witness_TransmissionIsNeverInterrupted :
    (∃ t, step { started 1 [.clock rest] with ser := sending } = .next t)
      ∧ (∃ t, step { started 1 [.write 4 0x018_00000020] with ser := sending } = .next t)
      ∧ sending.state ≠ .idle
      ∧ after (step { started 1 [.clock rest] with rePending := true }) (fun t => (t.ser.state, t.ser.src)) = some (.lead, .re)
      ∧ after
          (step
            { started 1 [.clock rest] with
              cfg := { topology := 1, model := 0, hibEn := true }, smp := ⟨true, rest, 5, false⟩, hibCnt := 49 })
          (fun t => (t.ser.state, t.ser.src)) = some (.lead, .ka) :=
  ⟨next_of_completes (by decide), next_of_completes (by decide), by decide, by decide, by decide⟩

theorem witness_TransmissionRunsToSchedule :
    exp.wf = true ∧ sending.state = .lead ∧ sending.timer = BitVec.ofNat 32 exp.tLead ∧ sending.idx = 0
      ∧ 1 ≤ sending.len.toNat ∧ sending.len.toNat ≤ 256
      ∧ 0 < exp.tLead ∧ exp.tLead + 2 * exp.tHalf * 7 ≤ 15 ∧ 15 < exp.tLead + 2 * exp.tHalf * 7 + exp.tHalf
      ∧ exp.tLead + 2 * exp.tHalf * 8 ≤ 17 ∧ 17 < exp.tLead + 2 * exp.tHalf * 8 + exp.tLag := by decide

/-- A tick after which the serializer is in each of its five states, in a 6-wire topology and in FourWire. -/
theorem witness_OutputsFollowTheSerializer :
    TickDue exp rest [] (started 1 [.clock rest]) ∧ TickDue exp rest [] (started 0 [.clock rest])
      ∧ after (step (started 1 [.clock rest])) (·.ser.state) = some .idle
      ∧ after (step { started 1 [.clock rest] with ser := { sending with timer := 2 } }) (·.ser.state) = some .lead
      ∧ after (step { started 1 [.clock rest] with ser := sending }) (·.ser.state) = some .first
      ∧ after (step { started 1 [.clock rest] with ser := { sending with state := .first } }) (·.ser.state) = some .second
      ∧ after (step { started 1 [.clock rest] with ser := { sending with state := .second, idx := 7 } }) (·.ser.state)
          = some .lag :=
  ⟨⟨rfl, rfl, rfl, rfl⟩, ⟨rfl, rfl, rfl, rfl⟩, by decide, by decide, by decide, by decide, by decide⟩

/-- A re-encode owed by the tick's frame end and one owed from before, with the serializer free and busy, and none owed. -/
theorem witness_ReencodeOwedThenStarted :
    (started 0 []).cfg.topology = 0 ∧ (started 1 []).cfg.topology ≠ 0 ∧ (started 1 []).rePending = false
      ∧ (started 1 []).sig.frameEnd = false ∧ ({ started 1 [] with rePending := true } : State).ser.state = .idle
      ∧ ({ started 1 [] with rePending := true, ser := sending } : State).ser.state ≠ .idle
      ∧ exp.frameBitCount ≤ 256 := by decide

/-- A keep-alive due at exactly the timeout (the counter's 50th quiet tick), and one tick before. -/
theorem witness_KeepAliveAtTheTimeout :
    let s : State :=
      { window .empty with cfg := { topology := 0, model := 0, hibEn := true }, hibCnt := 49 }
    s.cfg.hibEn = true ∧ s.sig.activity = false ∧ s.sig.cmdStarted = false ∧ exp.hibernateTimeout ≤ (s.hibCnt + 1).toNat
      ∧ ¬exp.hibernateTimeout ≤ s.hibCnt.toNat ∧ s.ser.state = .idle ∧ s.sig.idleLine = true
      ∧ exp.keepaliveCode.length ≤ 64 := by decide

/-- A step of each kind: a reset, a Running tick, a tick outside Running, a transaction. -/
theorem witness_NowCountsRunningTicks :
    (∃ t, step { nearlyComplete with env := { pending := [.clock rest], rst := true, sampleIdx := 0 } } = .next t)
      ∧ (∃ t, step (started 1 [.clock rest]) = .next t) ∧ (∃ t, step (fresh [.clock rest]) = .next t)
      ∧ ∃ t, step (fresh [.read 4 8]) = .next t :=
  ⟨next_of_completes (by decide), next_of_completes (by decide), next_of_completes (by decide),
    next_of_completes (by decide)⟩

theorem witness_StepKeepsInvariant :
    Inv (started 1 [.clock rest]) ∧ ∃ t, step (started 1 [.clock rest]) = .next t :=
  ⟨started_inv _, next_of_completes (by decide)⟩

theorem witness_ProfileIsLatched :
    ProfileAgrees (fresh [.clock rest]) ∧ (∃ t, step (fresh [.clock rest]) = .next t)
      ∧ (started 1 [.write 4 0x000_00000002]).run.isRunning = true
      ∧ ∃ t, step (started 1 [.write 4 0x000_00000002]) = .next t :=
  ⟨fun p h => (by cases h), next_of_completes (by decide), by decide, next_of_completes (by decide)⟩

theorem witness_ConfigErrorIsTerminal :
    Inv { fresh [.write 4 0x004_00000001] with run := .configError }
      ∧ ∃ t, step { fresh [.write 4 0x004_00000001] with run := .configError } = .next t :=
  ⟨{ settled := rfl
     signals := rfl
     cause := by simp [fresh, State.reset]
     mute := rfl
     validity := rfl
     running := fun p hp => by cases hp
     stopped := fun _ =>
       { out := rfl, now := rfl, dec := rfl, bank := rfl, ser := rfl, slots := fun b => by cases b <;> rfl } },
    next_of_completes (by decide)⟩

/-- A step whose input is a read of the snapshot, and a SNAP write of width 4 ruled out. -/
theorem witness_SnapshotChangesOnlyAtSnap :
    (∃ t, step (fresh [.read 4 0x030]) = .next t)
      ∧ ∀ n (w : Word) l, (fresh [.read 4 0x030]).env.pending ≠ .write n (0x02C#12 ++ w) :: l :=
  ⟨next_of_completes (by decide), fun n w l h => by cases h⟩

theorem witness_HostNeverWritesTheLiveBank :
    (∃ t, step (fresh [.write 4 0x02C_00000000]) = .next t)
      ∧ ∃ i l, (fresh [.write 4 0x02C_00000000]).env.pending = i :: l ∧ ∀ x, i ≠ .clock x :=
  ⟨next_of_completes (by decide), _, _, rfl, fun x h => by cases h⟩

/-- Bits 0 and 9 set, and a tick, or a write that does not name them. -/
theorem witness_ResultBitsAreSticky :
    (∃ t, step { started 1 [.clock rest] with delivered := 0x201, failed := 0x201 } = .next t)
      ∧ (0x201 : ButtonMask).getLsbD 0 = true ∧ (0x201 : ButtonMask).getLsbD 9 = true
      ∧ ∀ n (w : Word) l, ([.clock rest] : List Input) ≠ .write n (0x024#12 ++ w) :: l :=
  ⟨next_of_completes (by decide), by decide, by decide, fun n w l h => by cases h⟩

theorem witness_DisabledButtonsHoldNoCommand :
    TickDue exp rest [] { started 0 [.clock rest] with slots := State.reset.slots.set .jets (slot .pendingPress 0 0) }
      ∧ (started 0 [.clock rest]).btnEnable.getLsbD ButtonId.jets.code = false := ⟨⟨rfl, rfl, rfl, rfl⟩, by decide⟩

end Sys2Proof.Tests
end

section
/-! Transactions outside the port's contract (R72): the misaligned offsets decode to the misaligned rows, those rows refuse, and
a transaction refuses where its width or its operation does. -/

namespace Sys2Proof.Machine

/-- An offset that is no multiple of 4 has a low bit set; the converse of `aligned_bits`. -/
theorem misaligned_bit {off : Offset} (h : off.extractLsb' 0 2 ≠ 0) :
    off.getLsbD 0 = true ∨ off.getLsbD 1 = true := by
  by_contra hclear
  obtain ⟨h0, h1⟩ : off.getLsbD 0 = false ∧ off.getLsbD 1 = false := by simpa using hclear
  refine h (BitVec.eq_of_getLsbD_eq fun i hi => ?_)
  obtain rfl | rfl : i = 0 ∨ i = 1 := by omega
  · simpa using h0
  · simpa using h1

theorem decode_write_mem_misalignedRows {off : Offset} (w : Word) (h : off.extractLsb' 0 2 ≠ 0) :
    decode (.hostWrite (off ++ w)) ∈ misalignedRows off w := by
  simp only [decode, extract_off_append, extract_data_append]
  by_cases h0 : off.getLsbD 0 = true
  · have hrow : decodeWrite off w = .wrMisalignedOff0 off w := if_pos h0
    simp [hrow, misalignedRows]
  · have h1 : off.getLsbD 1 = true := (misaligned_bit h).resolve_left h0
    have hrow : decodeWrite off w = .wrMisalignedOff1 off w := (if_neg h0).trans (if_pos h1)
    simp [hrow, misalignedRows]

theorem decode_read_mem_misalignedRows {off : Offset} (w : Word) (h : off.extractLsb' 0 2 ≠ 0) :
    decode (.hostRead off) ∈ misalignedRows off w := by
  by_cases h0 : off.getLsbD 0 = true
  · have hrow : decodeRead off = .rdMisalignedOff0 off := if_pos h0
    simp [decode, hrow, misalignedRows]
  · have h1 : off.getLsbD 1 = true := (misaligned_bit h).resolve_left h0
    have hrow : decodeRead off = .rdMisalignedOff1 off := (if_neg h0).trans (if_pos h1)
    simp [decode, hrow, misalignedRows]

theorem exec_misalignedRows {off : Offset} {w : Word} {i : Instr} (hi : i ∈ misalignedRows off w) (s : State) :
    exec i s = .refused (.misalignedTransaction off) := by
  simp only [misalignedRows, List.mem_cons, List.not_mem_nil, or_false] at hi
  obtain rfl | rfl | rfl | rfl := hi <;> rfl

/-- The refusal of a transaction's operation is the transaction's, whatever RST is. -/
theorem stepTransaction_four_refused {op : OpWord} {s : State} {r : Refusal} (h : exec (decode op) s = .refused r) :
    stepTransaction 4 op s = .refused r := by
  cases hr : s.env.rst with
  | true => rw [stepTransaction_under_reset hr, h, thenNext]
  | false => simpa [stepTransaction, hr] using h

/-- A transaction of another width refuses, and so does one whose operation refuses. -/
theorem stepTransaction_refused {n : Nat} {op : OpWord} {s : State}
    (h : n ≠ 4 ∨ ∃ r, exec (decode op) s = .refused r) : ∃ r, stepTransaction n op s = .refused r := by
  by_cases hn : n = 4
  · subst hn
    obtain ⟨r, hr⟩ := h.resolve_left (fun hne => hne rfl)
    exact ⟨r, stepTransaction_four_refused hr⟩
  · exact ⟨.transactionWidth n, if_neg hn⟩

/-- A write at the head of the input list is run as a transaction. -/
theorem step_write {s : State} {n : Nat} {t : BitVec 44} {rest : List Input} (hp : s.env.pending = .write n t :: rest) :
    step s = stepTransaction n (.hostWrite t) { s with env := { s.env with pending := rest } } := by
  simp only [step, fetch, hp, runInput]

/-- A read at the head of the input list is run as a transaction. -/
theorem step_read {s : State} {n : Nat} {off : Offset} {rest : List Input} (hp : s.env.pending = .read n off :: rest) :
    step s = stepTransaction n (.hostRead off) { s with env := { s.env with pending := rest } } := by
  simp only [step, fetch, hp, runInput]

/-- Settles O7: a misaligned offset decodes to a misaligned row, which refuses in every state, and RST does not hide a refusal. -/
theorem transactionsOutsideTheContractAreRefused : Obligations.TransactionsOutsideTheContractAreRefused := by
  refine ⟨fun s n off w rest hout => ⟨fun hp => ?_, fun hp => ?_⟩, fun s off w i hi => exec_misalignedRows hi s,
    fun off w h => ⟨decode_write_mem_misalignedRows w h, decode_read_mem_misalignedRows w h⟩⟩
  · rw [step_write hp]
    exact stepTransaction_refused
      (hout.imp_right fun h => ⟨_, exec_misalignedRows (decode_write_mem_misalignedRows w h) _⟩)
  · rw [step_read hp]
    exact stepTransaction_refused
      (hout.imp_right fun h => ⟨_, exec_misalignedRows (decode_read_mem_misalignedRows w h) _⟩)

end Sys2Proof.Machine
end

section
/-! The frame decoder short of a completed frame (R142, R143, R145, R147): the decoder's step in each RUN_STATE, the event rows as
decoder steps, and the moves that change nothing in Idle. -/

namespace Sys2Proof.Machine

/-! ### The decoder's step -/

/-- While Running, at a state of a tick boundary, the decoder makes its move; the converse of `decoderStep_next`. -/
theorem decoderStep_running (f : Profile → State → State) {s : State} {p : Profile} (hr : s.run = .running p)
    (hs : s.dec.state.settled = true) : decoderStep f s = .next (f p s) := by
  simp only [decoderStep, hr, hs, if_true]

/-- A move that leaves a tick-boundary state as it is makes a step that changes nothing, in every RUN_STATE. -/
theorem decoderStep_eq_self {f : Profile → State → State} {s : State} (hs : s.dec.state.settled = true)
    (hf : ∀ p, f p s = s) : decoderStep f s = .next s := by
  cases hr : s.run with
  | running p => rw [decoderStep_running f hr hs, hf]
  | config => simp only [decoderStep, hr]
  | configError => simp only [decoderStep, hr]

theorem DecoderState.settled_idle : DecoderState.idle.settled = true := rfl

theorem DecoderState.settled_accumulating : DecoderState.accumulating.settled = true := rfl

/-! ### The event rows -/

theorem exec_csAssert (kPrev kCur d : Bool) (s : State) : exec (.csAssert kPrev kCur d) s = decoderStep onCsAssert s := rfl

theorem exec_csDeassert (kPrev kCur d : Bool) (s : State) :
    exec (.csDeassert kPrev kCur d) s = decoderStep onCsDeassert s := rfl

theorem exec_bit (d : Bool) (s : State) : exec (.bit d) s = decoderStep (onBit d) s := rfl

theorem exec_idleAndHeldRows {kPrev kCur d : Bool} {i : Instr} (hi : i ∈ idleAndHeldRows kPrev kCur d) (s : State) :
    exec i s = decoderStep onNoChange s := by
  simp only [idleAndHeldRows, List.mem_cons, List.not_mem_nil, or_false] at hi
  obtain rfl | rfl | rfl | rfl := hi <;> rfl

/-- IDLE_LINE and the HELD events change nothing wherever the decoder is at a tick boundary. -/
theorem exec_idleAndHeldRows_eq_self {kPrev kCur d : Bool} {i : Instr} (hi : i ∈ idleAndHeldRows kPrev kCur d) {s : State}
    (hs : s.dec.state.settled = true) : exec i s = .next s :=
  (exec_idleAndHeldRows hi s).trans (decoderStep_eq_self hs fun _ => rfl)

/-- CS_ASSERT while Running: a frame starts or restarts (R142, R145). -/
theorem exec_csAssert_running {s : State} {p : Profile} (kPrev kCur d : Bool) (hr : s.run = .running p)
    (hs : s.dec.state.settled = true) :
    exec (.csAssert kPrev kCur d) s = .next { s with dec := { s.dec with bitCnt := 0, state := .accumulating } } :=
  (exec_csAssert kPrev kCur d s).trans (decoderStep_running onCsAssert hr hs)

/-! ### The moves by DEC_STATE -/

theorem onBit_idle (d : Bool) (p : Profile) {s : State} (h : s.dec.state = .idle) : onBit d p s = s := by
  simp only [onBit, h]

theorem onCsDeassert_idle (p : Profile) {s : State} (h : s.dec.state = .idle) : onCsDeassert p s = s := by
  simp only [onCsDeassert, h]

theorem onCsDeassert_accumulating (p : Profile) {s : State} (h : s.dec.state = .accumulating) :
    onCsDeassert p s = earlyDeassert s := by
  simp only [onCsDeassert, h]

/-- What `earlyDeassert` writes; the Invalid it passes through (R147) is gone at the end of the step. -/
theorem earlyDeassert_eq (s : State) :
    earlyDeassert s =
      { s with
        dec := { s.dec with state := .idle, invalidCount := s.dec.invalidCount + 1, errCause := 1 }
        sig := { s.sig with frameEnd := true } } := rfl

/-! ### The statements -/

/-- Settles O40: the decoder's move on an assertion does not look at DEC_STATE. -/
theorem chipSelectAssertStartsAFrame : Obligations.ChipSelectAssertStartsAFrame :=
  fun _ _ kPrev kCur d hr hs => exec_csAssert_running kPrev kCur d hr hs

/-- Settles O41: in Idle each move but an assertion's leaves the state, in every RUN_STATE; while Accumulating the moves on
IDLE_LINE and the HELD events still do, and an assertion restarts the frame as in O40. -/
theorem decoderIgnoresTheOtherEvents : Obligations.DecoderIgnoresTheOtherEvents := by
  refine ⟨fun s kPrev kCur d hidle => ?_, fun s p kPrev kCur d hr hacc => ?_⟩
  · have hs : s.dec.state.settled = true := hidle ▸ DecoderState.settled_idle
    refine ⟨?bit, ?deassert, fun i hi => exec_idleAndHeldRows_eq_self hi hs⟩
    case bit => rw [exec_bit, decoderStep_eq_self hs fun p => onBit_idle d p hidle]
    case deassert => rw [exec_csDeassert, decoderStep_eq_self hs fun p => onCsDeassert_idle p hidle]
  · have hs : s.dec.state.settled = true := hacc ▸ DecoderState.settled_accumulating
    exact ⟨fun i hi => exec_idleAndHeldRows_eq_self hi hs, exec_csAssert_running kPrev kCur d hr hs⟩

/-- Settles O45: while Accumulating the move on a deassertion is `earlyDeassert`. -/
theorem earlyDeassertIsAFramingError : Obligations.EarlyDeassertIsAFramingError := by
  intro s p kPrev kCur d hr hacc
  have hs : s.dec.state.settled = true := hacc ▸ DecoderState.settled_accumulating
  rw [exec_csDeassert, decoderStep_running onCsDeassert hr hs, onCsDeassert_accumulating p hacc, earlyDeassert_eq]

end Sys2Proof.Machine
end

section
/-! The snapshot (R174) and the host reads (`42_field_bank_and_reads.md`): the word each read answers, the bits of the words that
are put together from registers, and the reads that answer 0. -/

namespace Sys2Proof.Machine

/-! ### The CFG word (R177) -/

/-- Below HIB_EN the CFG word is MODEL, six zero bits and TOPOLOGY. -/
theorem extractLsb'_cfgWord {start len : Nat} (s : State) (h : start + len ≤ 16) :
    (cfgWord s).extractLsb' start len = (s.cfg.model ++ (0#6 ++ s.cfg.topology)).extractLsb' start len := by
  rw [cfgWord, BitVec.extractLsb'_append_eq_of_add_le (by omega), BitVec.extractLsb'_append_eq_of_add_le h]

theorem cfgWord_topology (s : State) : (cfgWord s).extractLsb' 0 2 = s.cfg.topology := by
  rw [extractLsb'_cfgWord s (by decide), BitVec.extractLsb'_append_eq_of_add_le (by decide),
    BitVec.extractLsb'_append_eq_right]

theorem cfgWord_low_zero (s : State) : (cfgWord s).extractLsb' 2 6 = 0 := by
  rw [extractLsb'_cfgWord s (by decide), BitVec.extractLsb'_append_eq_of_add_le (by decide),
    BitVec.extractLsb'_append_eq_left]
  rfl

theorem cfgWord_model (s : State) : (cfgWord s).extractLsb' 8 8 = s.cfg.model := by
  rw [extractLsb'_cfgWord s (by decide), BitVec.extractLsb'_append_eq_left]

theorem cfgWord_hibEn (s : State) : (cfgWord s).getLsbD 16 = s.cfg.hibEn := by
  rw [cfgWord, BitVec.getLsbD_append, if_pos (by decide), BitVec.getLsbD_append, if_neg (by decide)]
  simp

theorem cfgWord_high_zero (s : State) : (cfgWord s).extractLsb' 17 15 = 0 := by
  rw [cfgWord, BitVec.extractLsb'_append_eq_left]
  rfl

/-! ### The words of the per-button masks (R182, R183) -/

theorem getLsbD_maskWord (m : ButtonMask) (b : ButtonId) : (maskWord m).getLsbD b.code = maskBit m b := by
  have hb := b.code_lt
  simp [maskWord, maskBit, show b.code < 32 by omega]

theorem maskWord_zero (m : ButtonMask) : (maskWord m).extractLsb' 10 22 = 0 := by
  refine BitVec.eq_of_getLsbD_eq fun i _ => ?_
  simp [maskWord]

theorem SlotState.isPending_iff (k : SlotState) : k.isPending = true ↔ k = .pendingPress ∨ k = .pendingHold := by
  cases k <;> decide

theorem slotPendingWord_bit (s : State) (b : ButtonId) : (slotPendingWord s).getLsbD b.code = true ↔
    (s.slots.get b).state = .pendingPress ∨ (s.slots.get b).state = .pendingHold := by
  rw [slotPendingWord, getLsbD_maskWord, maskBit_buttonMask, SlotState.isPending_iff]

theorem slotHoldingWord_bit (s : State) (b : ButtonId) :
    (slotHoldingWord s).getLsbD b.code = true ↔ (s.slots.get b).state = .holding := by
  rw [slotHoldingWord, getLsbD_maskWord, maskBit_buttonMask, beq_iff_eq]

/-! ### The SNAP_VALID word (R188) -/

theorem snapValidWord_known (s : State) (f : FieldId) : (snapValidWord s).getLsbD f.code = s.snap.known.get f := by
  have hf := f.code_lt
  rw [snapValidWord, BitVec.getLsbD_append, if_pos (by omega), BitVec.getLsbD_append, if_pos (by omega),
    BitVec.getLsbD_append, if_pos (by omega), BitVec.getLsbD_append, if_pos hf, getLsbD_fieldMask]

theorem snapValidWord_low_zero (s : State) : (snapValidWord s).extractLsb' 11 5 = 0 := by
  rw [snapValidWord, BitVec.extractLsb'_append_eq_of_add_le (by decide), BitVec.extractLsb'_append_eq_of_add_le (by decide),
    BitVec.extractLsb'_append_eq_of_add_le (by decide), BitVec.extractLsb'_append_eq_left]
  rfl

theorem snapValidWord_lastUpdateValid (s : State) : (snapValidWord s).getLsbD 16 = s.snap.lastUpdateValid := by
  rw [snapValidWord, BitVec.getLsbD_append, if_pos (by decide), BitVec.getLsbD_append, if_pos (by decide),
    BitVec.getLsbD_append, if_neg (by decide)]
  simp

theorem snapValidWord_lastFrameValid (s : State) : (snapValidWord s).getLsbD 17 = s.snap.lastFrameValid := by
  rw [snapValidWord, BitVec.getLsbD_append, if_pos (by decide), BitVec.getLsbD_append, if_neg (by decide)]
  simp

theorem snapValidWord_high_zero (s : State) : (snapValidWord s).extractLsb' 18 14 = 0 := by
  rw [snapValidWord, BitVec.extractLsb'_append_eq_left]
  rfl

/-! ### The word each read answers -/

theorem answers_rdCfg (s : State) : Answers .rdCfg s (cfgWord s) := rfl

theorem answers_rdInvalidCount (s : State) : Answers .rdInvalidCount s s.dec.invalidCount := rfl

theorem answers_rdErrCause (s : State) : Answers .rdErrCause s (errCauseWord s) := rfl

theorem answers_rdBtnEnable (s : State) : Answers .rdBtnEnable s (maskWord s.btnEnable) := rfl

theorem answers_rdSlotPending (s : State) : Answers .rdSlotPending s (slotPendingWord s) := rfl

theorem answers_rdSlotHolding (s : State) : Answers .rdSlotHolding s (slotHoldingWord s) := rfl

theorem answers_rdDelivered (s : State) : Answers .rdDelivered s (maskWord s.delivered) := rfl

theorem answers_rdFailed (s : State) : Answers .rdFailed s (maskWord s.failed) := rfl

theorem answers_rdSnapNowLo (s : State) : Answers .rdSnapNowLo s (loWord s.snap.now) := rfl

theorem answers_rdSnapNowHi (s : State) : Answers .rdSnapNowHi s (hiWord s.snap.now) := rfl

theorem answers_rdSnapLastUpdateLo (s : State) : Answers .rdSnapLastUpdateLo s (loWord s.snap.lastUpdate) := rfl

theorem answers_rdSnapLastUpdateHi (s : State) : Answers .rdSnapLastUpdateHi s (hiWord s.snap.lastUpdate) := rfl

theorem answers_rdSnapValid (s : State) : Answers .rdSnapValid s (snapValidWord s) := rfl

/-- The write-only registers and the reserved offsets answer 0 (R74, R189). -/
theorem answers_zeroReadRows {off : Offset} {i : Instr} (hi : i ∈ zeroReadRows off) (s : State) : Answers i s 0 := by
  simp only [zeroReadRows, List.mem_cons, List.not_mem_nil, or_false] at hi
  obtain rfl | rfl | rfl | rfl | rfl | rfl | rfl | rfl | rfl | rfl | rfl | rfl | rfl := hi <;> rfl

/-! ### The snapshot (R174) -/

theorem decode_wrSnap (w : Word) : decode (.hostWrite (0x02C#12 ++ w)) = .wrSnap w := by
  simp only [decode, extract_off_append, extract_data_append]
  rfl

theorem exec_wrSnap (w : Word) (s : State) : exec (.wrSnap w) s = .next (takeSnapshot s) := rfl

/-! ### The statements -/

/-- Settles O21: SNAP runs `takeSnapshot`, which writes the snapshot bank and no other part of the state. -/
theorem snapCopiesTheLiveBank : Obligations.SnapCopiesTheLiveBank := fun s w =>
  ⟨decode_wrSnap w, (takeSnapshot s).snap, exec_wrSnap w s, fun _ => ⟨rfl, rfl⟩, rfl, rfl, rfl, rfl⟩

/-- Settles O22, by the fields of `cfgWord`. -/
theorem cfgReadGivesItsFields : Obligations.CfgReadGivesItsFields := fun s =>
  ⟨rfl, cfgWord s, answers_rdCfg s, cfgWord_topology s, cfgWord_low_zero s, cfgWord_model s, cfgWord_hibEn s,
    cfgWord_high_zero s⟩

/-- Settles O24: each of these reads answers its register, zero-extended by `maskWord` and `errCauseWord`. -/
theorem recordReadsZeroExtend : Obligations.RecordReadsZeroExtend := fun s =>
  ⟨answers_rdInvalidCount s, answers_rdErrCause s, answers_rdBtnEnable s, answers_rdDelivered s, answers_rdFailed s,
    rfl, rfl, rfl, rfl, rfl⟩

/-- Settles O25: both words are per-button masks, whose bit `b` is the slot's. -/
theorem slotReadsGiveOneBitPerButton : Obligations.SlotReadsGiveOneBitPerButton := fun s =>
  ⟨rfl, rfl, ⟨slotPendingWord s, answers_rdSlotPending s, maskWord_zero _, slotPendingWord_bit s⟩,
    slotHoldingWord s, answers_rdSlotHolding s, maskWord_zero _, slotHoldingWord_bit s⟩

/-- Settles O26: the two halves of a 64-bit register give it back. -/
theorem snapshotTimeReadsAreHalves : Obligations.SnapshotTimeReadsAreHalves := fun s =>
  ⟨loWord s.snap.now, hiWord s.snap.now, loWord s.snap.lastUpdate, hiWord s.snap.lastUpdate,
    answers_rdSnapNowLo s, answers_rdSnapNowHi s, hiWord_append_loWord _,
    answers_rdSnapLastUpdateLo s, answers_rdSnapLastUpdateHi s, hiWord_append_loWord _, rfl, rfl, rfl, rfl⟩

/-- Settles O27, by the bits of `snapValidWord`. -/
theorem snapValidReadGivesItsBits : Obligations.SnapValidReadGivesItsBits := fun s =>
  ⟨rfl, snapValidWord s, answers_rdSnapValid s, snapValidWord_known s, snapValidWord_lastUpdateValid s,
    snapValidWord_lastFrameValid s, snapValidWord_low_zero s, snapValidWord_high_zero s⟩

/-- Settles O29: every row of `zeroReadRows` answers `zeroWord`. -/
theorem writeOnlyAndReservedReadZero : Obligations.WriteOnlyAndReservedReadZero :=
  ⟨fun s _ _ hi => answers_zeroReadRows hi s, rfl, rfl, rfl⟩

end Sys2Proof.Machine
end

section
/-! The command register CMD (R192 to R195, R208): what each word written to it decodes to, the enqueue by what step 3 of R192 says
of the button, and one operation repeated with no tick between. -/

namespace Sys2Proof.Machine

/-! ### The command words (R92, R93) -/

theorem decode_wrCmd (w : Word) : decode (.hostWrite (0x018#12 ++ w)) = decodeCmd w := by
  simp only [decode, extract_off_append, extract_data_append]
  rfl

/-- The word with ACTION `act` and BUTTON `b`, its reserved bits 0 (R92). -/
def commandWord (act : Nat) (b : ButtonId) : Word := BitVec.ofNat 32 (16 * act + b.code)

/-- The fields of R92 make up the whole word. -/
theorem eq_commandWord {w : Word} {act : Nat} {b : ButtonId} (hres : w.extractLsb' 6 26 = 0)
    (hbtn : (w.extractLsb' 0 4).toNat = b.code) (hact : (w.extractLsb' 4 2).toNat = act) : w = commandWord act b := by
  have hres' : (w.extractLsb' 6 26).toNat = 0 := by rw [hres]; rfl
  have hw := w.isLt
  refine BitVec.eq_of_toNat_eq ?_
  simp only [BitVec.extractLsb'_toNat, Nat.shiftRight_eq_div_pow, Nat.reducePow] at hres' hbtn hact
  simp only [commandWord, BitVec.toNat_ofNat]
  omega

theorem decodeCmd_press (b : ButtonId) : decodeCmd (commandWord 0 b) = pressInstr b := by cases b <;> rfl

theorem decodeCmd_hold (b : ButtonId) : decodeCmd (commandWord 1 b) = holdInstr b := by cases b <;> rfl

theorem decodeCmd_release (b : ButtonId) : decodeCmd (commandWord 2 b) = releaseInstr b := by cases b <;> rfl

theorem exec_pressInstr (b : ButtonId) (s : State) : exec (pressInstr b) s = .next (enqueue b .pendingPress s) := by
  cases b <;> rfl

theorem exec_holdInstr (b : ButtonId) (s : State) : exec (holdInstr b) s = .next (enqueue b .pendingHold s) := by
  cases b <;> rfl

theorem exec_releaseInstr (b : ButtonId) (s : State) : exec (releaseInstr b) s = .next (releaseCommand b s) := by
  cases b <;> rfl

/-- The words of Press and Hold enqueue their slot state (R192 steps 3 and 4). -/
theorem exec_decodeCmd_enqueue {act : Nat} (h : act < 2) (b : ButtonId) (s : State) :
    exec (decodeCmd (commandWord act b)) s
      = .next (enqueue b (if act = 0 then .pendingPress else .pendingHold) s) := by
  obtain rfl | rfl : act = 0 ∨ act = 1 := by omega
  · rw [decodeCmd_press, exec_pressInstr, if_pos rfl]
  · rw [decodeCmd_hold, exec_holdInstr, if_neg Nat.one_ne_zero]

/-! ### The illegal words (R192 step 1) -/

/-- A reserved bit, a BUTTON above 9 or ACTION 3. -/
abbrev IllegalCommandWord (w : Word) : Prop :=
  w.extractLsb' 6 26 ≠ 0 ∨ 9 < (w.extractLsb' 0 4).toNat ∨ (w.extractLsb' 4 2).toNat = 3

/-- An illegal word fails the decoder's test for a legal one. -/
theorem exec_ite_legal {w c : Word} {i j : Instr} {s : State} {o : Host.Outcome State Fault Refusal}
    (hw : IllegalCommandWord w) (hc : ¬IllegalCommandWord c) (hj : exec j s = o) :
    exec (if w = c then i else j) s = o := by
  rwa [if_neg fun h : w = c => hc (h ▸ hw)]

/-- A choice between two operations with one outcome has that outcome. -/
theorem exec_ite_same {c : Prop} [Decidable c] {i j : Instr} {s : State} {o : Host.Outcome State Fault Refusal}
    (hi : exec i s = o) (hj : exec j s = o) : exec (if c then i else j) s = o := by
  split <;> assumption

/-- An illegal word is none of the 30 legal ones, and each of the rows that remain sets BAD_CMD. -/
theorem exec_decodeCmd_illegal {w : Word} (h : IllegalCommandWord w) (s : State) :
    exec (decodeCmd w) s = .next (illegalCommand s) := by
  unfold decodeCmd
  iterate 30 refine exec_ite_legal h (by decide) ?_
  iterate 28 refine exec_ite_same rfl ?_
  rfl

/-! ### Acceptance (R192 step 3) -/

theorem acceptsCommand_of_canCommand {p : Profile} {b : ButtonId} {s : State} (h : CanCommand p b s) :
    acceptsCommand b s = true := by
  obtain ⟨hrun, hgate, hcode⟩ := h
  simp [acceptsCommand, hrun, maskBit, hgate, hcode]

theorem acceptsCommand_of_cannotCommand {b : ButtonId} {s : State} (h : CannotCommand b s) :
    acceptsCommand b s = false := by
  cases hrun : s.run with
  | config => simp [acceptsCommand, hrun]
  | configError => simp [acceptsCommand, hrun]
  | running p =>
    obtain hstop | hgate | ⟨q, hq, hcode⟩ := h
    · exact absurd hrun (hstop p)
    · simp [acceptsCommand, hrun, maskBit, hgate]
    · obtain rfl : p = q := RunState.running.inj (hrun.symm.trans hq)
      simp [acceptsCommand, hrun, hcode]

/-- Acceptance looks at RUN_STATE and BTN_ENABLE, which an enqueue leaves. -/
theorem acceptsCommand_enqueue (b : ButtonId) (k : SlotState) (s : State) :
    acceptsCommand b (enqueue b k s) = acceptsCommand b s := by
  simp [acceptsCommand]

/-- At the same NOW an accepted command enqueued again finds its slot as it would leave it. -/
theorem enqueue_enqueue {b : ButtonId} {k : SlotState} {s : State} (h : acceptsCommand b s = true) :
    enqueue b k (enqueue b k s) = enqueue b k s := by
  rw [enqueue_accepted ((acceptsCommand_enqueue b k s).trans h), enqueue_accepted h]
  simp [PerButton.set_set]

/-! ### One operation repeated -/

theorem execAll_cons {i : Instr} {s t : State} (h : exec i s = .next t) (is : List Instr) :
    execAll (i :: is) s = execAll is t := by
  simp only [execAll, h]

/-- An operation that changes nothing, however often. -/
theorem execAll_replicate_fixed {i : Instr} {t : State} (h : exec i t = .next t) (k : Nat) :
    execAll (List.replicate k i) t = .next t := by
  induction k with
  | zero => rfl
  | succ k ih => rw [List.replicate_succ, execAll_cons h, ih]

/-! ### The statements -/

/-- Settles O31: a word of the first clause reaches an illegal row; any other is the `commandWord` of its fields, which enqueues
or releases its button. -/
theorem commandWriteFollowsItsWord : Obligations.CommandWriteFollowsItsWord := by
  intro s w act o
  have ho : o = exec (decodeCmd w) s := congrArg (exec · s) (decode_wrCmd w)
  refine ⟨fun hill => ho.trans (exec_decodeCmd_illegal hill s), fun b hres hbtn => ?_⟩
  rw [ho, eq_commandWord hres hbtn (rfl : _ = act)]
  refine ⟨fun hrel => ?release, fun hact hcannot => ?refused, fun hact p hcan => ?accepted⟩
  case release => rw [hrel, decodeCmd_release, exec_releaseInstr]; rfl
  case refused => rw [exec_decodeCmd_enqueue hact, enqueue_refused (acceptsCommand_of_cannotCommand hcannot)]
  case accepted => rw [exec_decodeCmd_enqueue hact, enqueue_accepted (acceptsCommand_of_canCommand hcan)]

/-- Settles O34: after the first press every further one changes nothing. -/
theorem repeatedPressIsOnePress : Obligations.RepeatedPressIsOnePress := by
  intro s b p k hcan
  have hfirst := exec_pressInstr b s
  have hagain : exec (pressInstr b) (enqueue b .pendingPress s) = .next (enqueue b .pendingPress s) := by
    rw [exec_pressInstr, enqueue_enqueue (acceptsCommand_of_canCommand hcan)]
  rw [List.replicate_succ, execAll_cons hfirst, execAll_replicate_fixed hagain, hfirst]

end Sys2Proof.Machine
end

section
/-! Arbitration (`45_bus_mux_arbitration.md`): the owed re-encode of phase 2 (R253, R260), the inactivity counter and the keep-alive
of phase 4 (R263, R264), and the clock edge outside Running (R273). -/

namespace Sys2Proof.Machine

/-! ### The topology (R250) -/

theorem isFourWire_iff (s : State) : isFourWire s = true ↔ s.cfg.topology = 0 := by
  rw [isFourWire, beq_iff_eq]

theorem forward_fourWire (p : Profile) {s : State} (h : s.cfg.topology = 0) : forward p s = s :=
  if_pos ((isFourWire_iff s).mpr h)

theorem forward_sixWire (p : Profile) {s : State} (h : s.cfg.topology ≠ 0) :
    forward p s = startReencode p (oweReencode s) :=
  if_neg fun hf => h ((isFourWire_iff s).mp hf)

/-! ### The re-encode (R260) -/

/-- A re-encode is owed from before, or by the end of a frame after one was accepted. -/
abbrev ReencodeOwed (s : State) : Prop :=
  s.rePending = true ∨ (s.sig.frameEnd = true ∧ s.bank.lastFrameValid = true)

theorem rePending_of_not_owed {s : State} (h : ¬ReencodeOwed s) : s.rePending = false :=
  Bool.eq_false_iff.mpr fun hp => h (.inl hp)

theorem oweReencode_of_owed {s : State} (h : ReencodeOwed s) : oweReencode s = { s with rePending := true } := by
  unfold oweReencode
  split
  · rfl
  next hend =>
    have hp : s.rePending = true := h.resolve_right (by simpa using hend)
    rw [← hp]

theorem oweReencode_of_not_owed {s : State} (h : ¬ReencodeOwed s) : oweReencode s = s :=
  if_neg fun hend => h (.inr (by simpa using hend))

theorem startReencode_of_not_pending (p : Profile) {s : State} (h : s.rePending = false) : startReencode p s = s :=
  if_neg (by simp [h])

theorem startReencode_of_busy (p : Profile) {s : State} (h : s.ser.state ≠ .idle) : startReencode p s = s :=
  if_neg (by simp [h])

theorem startReencode_of_free (p : Profile) {s : State} (hp : s.rePending = true) (hi : s.ser.state = .idle) :
    startReencode p s = { startTx p s.bank.lastFrame p.frameBitCount .re s with rePending := false } :=
  if_pos (by simp [hp, hi])

/-! ### The inactivity counter (R263) -/

/-- HIB_CNT after the first step of phase 4. -/
def nextHibCnt (s : State) : BitVec 32 :=
  if s.cfg.hibEn = false ∨ s.sig.activity = true ∨ s.sig.cmdStarted = true then 0
  else if s.hibCnt = 0xFFFFFFFF then 0xFFFFFFFF else s.hibCnt + 1

theorem satInc32_eq (c : BitVec 32) : satInc32 c = if c = 0xFFFFFFFF then 0xFFFFFFFF else c + 1 := by
  have hmax : BitVec.allOnes 32 = 0xFFFFFFFF := rfl
  rw [satInc32, hmax]
  split
  next h => exact h
  · rfl

theorem countInactivity_eq (s : State) : countInactivity s = { s with hibCnt := nextHibCnt s } := by
  unfold countInactivity nextHibCnt
  split
  next hoff => rw [if_pos (.inl (by simpa using hoff))]
  next hon =>
    split
    next hact => rw [if_pos (.inr (by simpa using hact))]
    next hquiet => rw [if_neg (by simpa using And.intro hon hquiet), satInc32_eq]

/-! ### The keep-alive (R264) -/

/-- Hibernate prevention is on, HIB_CNT has reached the timeout, and serializer and CIO bus are idle. -/
abbrev KeepaliveDue (p : Profile) (s : State) : Prop :=
  s.cfg.hibEn = true ∧ p.hibernateTimeout ≤ s.hibCnt.toNat ∧ s.ser.state = .idle ∧ s.sig.idleLine = true

theorem emitKeepalive_of_due {p : Profile} {s : State} (h : KeepaliveDue p s) :
    emitKeepalive p s = { startTxCode p p.keepaliveCode .ka s with hibCnt := 0 } :=
  if_pos (by simpa [and_assoc] using h)

theorem emitKeepalive_of_not_due {p : Profile} {s : State} (h : ¬KeepaliveDue p s) : emitKeepalive p s = s :=
  if_neg fun hc => h (by simpa [and_assoc] using hc)

theorem hibernate_eq (p : Profile) (s : State) :
    hibernate p s = emitKeepalive p { s with hibCnt := nextHibCnt s } :=
  congrArg (emitKeepalive p) (countInactivity_eq s)

/-! ### The clock edge outside Running (R273) -/

theorem stepTick_stopped (x : Sample) {s : State} (h : s.run.isRunning = false) : stepTick x s = .next s := by
  cases hr : s.run with
  | config => simp only [stepTick, hr]
  | configError => simp only [stepTick, hr]
  | running p => rw [hr] at h; cases h

/-! ### The statements -/

/-- Settles O12: a clock edge with RST released is a tick, and outside Running the tick leaves the state it finds. -/
theorem stoppedTickDoesNothing : Obligations.StoppedTickDoesNothing :=
  fun _ x _ hstop hrst hpend => (step_clock hrst hpend).trans (stepTick_stopped x hstop)

/-- Settles O50: phase 2 first notes that a re-encode is owed, then starts it where the serializer is Idle; the buffer is the
accepted frame cut to the profile's length. -/
theorem reencodeOwedThenStarted : Obligations.ReencodeOwedThenStarted := by
  intro p s owed
  refine ⟨forward_fourWire p, fun hsix hnone => ?none, fun hsix howed hbusy => ?busy, fun hsix howed hidle _ => ?free⟩
  case none =>
    rw [forward_sixWire p hsix, oweReencode_of_not_owed hnone,
      startReencode_of_not_pending p (rePending_of_not_owed hnone)]
  case busy =>
    rw [forward_sixWire p hsix, oweReencode_of_owed howed]
    exact startReencode_of_busy p hbusy
  case free =>
    refine ⟨firstBits s.bank.lastFrame p.frameBitCount, getLsbD_firstBits _ _, ?_⟩
    rw [forward_sixWire p hsix, oweReencode_of_owed howed]
    exact startReencode_of_free p rfl hidle

/-- Settles O51: phase 4 counts, and then emits by the new count; a code of at most 64 bits fits the serializer's buffer. -/
theorem keepAliveAtTheTimeout : Obligations.KeepAliveAtTheTimeout := by
  intro p s cnt due
  refine ⟨fun hnot => ?quiet, fun hdue hlen => ?emit⟩
  case quiet => exact (hibernate_eq p s).trans (emitKeepalive_of_not_due hnot)
  case emit =>
    refine ⟨firstBits (frameOfList p.keepaliveCode) p.keepaliveCode.length,
      fun i => getLsbD_codeBits p.keepaliveCode i (by omega), ?_⟩
    exact (hibernate_eq p s).trans (emitKeepalive_of_due hdue)

end Sys2Proof.Machine
end

section
/-! The writes of configuration and control (`46_configuration_control.md`): CFG, CTRL, STATUS and the acknowledgements of DELIVERED
and FAILED. -/

namespace Sys2Proof.Machine

/-! ### The decode and the meaning of each write -/

/-- A host write is decoded by its offset (R91). -/
theorem decode_hostWrite_append (off : Offset) (w : Word) : decode (.hostWrite (off ++ w)) = decodeWrite off w := by
  simp only [decode, extract_off_append, extract_data_append]

theorem decode_wrCfg (w : Word) : decode (.hostWrite (0x000#12 ++ w)) = .wrCfg w :=
  (decode_hostWrite_append _ w).trans rfl

theorem decode_wrStatus (w : Word) : decode (.hostWrite (0x008#12 ++ w)) = .wrStatus w :=
  (decode_hostWrite_append _ w).trans rfl

theorem decode_wrDelivered (w : Word) : decode (.hostWrite (0x024#12 ++ w)) = .wrDelivered w :=
  (decode_hostWrite_append _ w).trans rfl

theorem decode_wrFailed (w : Word) : decode (.hostWrite (0x028#12 ++ w)) = .wrFailed w :=
  (decode_hostWrite_append _ w).trans rfl

theorem exec_wrCfg (w : Word) (s : State) : exec (.wrCfg w) s = .next (cfgWrite w s) := rfl

theorem exec_wrCtrlStart (w : Word) (s : State) : exec (.wrCtrlStart w) s = .next (ctrlWrite w s) := rfl

theorem exec_wrCtrlNoStart (w : Word) (s : State) : exec (.wrCtrlNoStart w) s = .next (ctrlWrite w s) := rfl

theorem exec_wrStatus (w : Word) (s : State) : exec (.wrStatus w) s = .next (statusWrite w s) := rfl

theorem exec_wrDelivered (w : Word) (s : State) : exec (.wrDelivered w) s = .next (deliveredWrite w s) := rfl

theorem exec_wrFailed (w : Word) (s : State) : exec (.wrFailed w) s = .next (failedWrite w s) := rfl

/-! ### CFG (R280) -/

theorem cfgWrite_config (w : Word) {s : State} (h : s.run = .config) :
    cfgWrite w s =
      { s with cfg := { topology := w.extractLsb' 0 2, model := w.extractLsb' 8 8, hibEn := w.getLsbD 16 } } := by
  simp only [cfgWrite, h, cfgTopology, cfgModel, cfgHibEn]

theorem cfgWrite_elsewhere (w : Word) {s : State} (h : s.run ≠ .config) : cfgWrite w s = s := by
  cases hr : s.run with
  | config => exact absurd hr h
  | running p => simp only [cfgWrite, hr]
  | configError => simp only [cfgWrite, hr]

/-! ### CTRL (R282, R285) -/

theorem start_elsewhere {s : State} (h : s.run ≠ .config) : start s = s := by
  cases hr : s.run with
  | config => exact absurd hr h
  | running p => simp only [start, hr]
  | configError => simp only [start, hr]

theorem ctrlWrite_start {w : Word} (h : w.getLsbD 0 = true) (s : State) : ctrlWrite w s = start s := if_pos h

theorem ctrlWrite_noStart {w : Word} (h : w.getLsbD 0 = false) (s : State) : ctrlWrite w s = s :=
  if_neg (Bool.eq_false_iff.mp h)

/-! ### STATUS (R287) -/

/-- The write touches BAD_CMD alone; bit 4 written 0 gives BAD_CMD back. -/
theorem statusWrite_eq (w : Word) (s : State) : statusWrite w s = { s with badCmd := s.badCmd && !w.getLsbD 4 } := by
  cases hbit : w.getLsbD 4 with
  | true => rw [Bool.not_true, Bool.and_false]; exact if_pos hbit
  | false => rw [Bool.not_false, Bool.and_true]; exact if_neg (Bool.eq_false_iff.mp hbit)

/-! ### DELIVERED and FAILED (R288, R289) -/

/-- Clearing the bits that a word names keeps every other button's. -/
theorem getLsbD_and_not_wordMask (m : ButtonMask) (w : Word) {i : Nat} (h : i < 10) :
    (m &&& ~~~wordMask w).getLsbD i = (m.getLsbD i && !w.getLsbD i) := by
  rw [BitVec.getLsbD_and, BitVec.getLsbD_not, getLsbD_wordMask w i h, decide_eq_true h, Bool.true_and]

theorem getLsbD_deliveredWrite (w : Word) (s : State) {i : Nat} (h : i < 10) :
    (deliveredWrite w s).delivered.getLsbD i = (s.delivered.getLsbD i && !w.getLsbD i) :=
  getLsbD_and_not_wordMask s.delivered w h

theorem getLsbD_failedWrite (w : Word) (s : State) {i : Nat} (h : i < 10) :
    (failedWrite w s).failed.getLsbD i = (s.failed.getLsbD i && !w.getLsbD i) :=
  getLsbD_and_not_wordMask s.failed w h

/-! ### The statements -/

/-- Settles O13: CFG is stored in Config, and neither Running nor ConfigError stores it. -/
theorem cfgWriteOnlyInConfig : Obligations.CfgWriteOnlyInConfig := by
  refine fun s w => ⟨decode_wrCfg w, fun hconfig => ?stored, fun helse => ?ignored⟩
  case stored => rw [exec_wrCfg, cfgWrite_config w hconfig]
  case ignored => rw [exec_wrCfg, cfgWrite_elsewhere w helse]

/-- Settles O15: both rows of CTRL run `ctrlWrite`, which starts on bit 0 alone, and a start acts in Config alone. -/
theorem startElsewhereIgnored : Obligations.StartElsewhereIgnored := by
  refine fun s w => ⟨fun hbit helse => ?elsewhere, fun hbit => ?noStart⟩
  case elsewhere => rw [exec_wrCtrlStart, ctrlWrite_start hbit, start_elsewhere helse]
  case noStart => rw [exec_wrCtrlNoStart, ctrlWrite_noStart hbit]

/-- Settles O18, by `statusWrite_eq`. -/
theorem statusWriteClearsBadCmd : Obligations.StatusWriteClearsBadCmd :=
  fun s w => ⟨decode_wrStatus w, (exec_wrStatus w s).trans (congrArg Host.Outcome.next (statusWrite_eq w s))⟩

/-- Settles O19: each write stores its register with the bits of the word's mask cleared. -/
theorem resultWritesClearTheirMasks : Obligations.ResultWritesClearTheirMasks := fun s w =>
  ⟨decode_wrDelivered w, decode_wrFailed w,
    ⟨(deliveredWrite w s).delivered, exec_wrDelivered w s, fun _ => getLsbD_deliveredWrite w s⟩,
    (failedWrite w s).failed, exec_wrFailed w s, fun _ => getLsbD_failedWrite w s⟩

end Sys2Proof.Machine
end

section
/-! Encodings (`30_encoding.md`): the decoder reads from every operation's encoding that operation, and every word is the encoding
of what it decodes to. The offsets that the decoder names are told apart by evaluation, the others by the mask of their row, and
the illegal command words by their lowest reserved bit (log 10). -/

namespace Sys2Proof

/-! ### Offsets under a mask -/

/-- Two masks that ask for different bits are met by no offset together. -/
theorem and_ne_of_conflict {off m v m' v' : Offset} (h : off &&& m = v) (hc : v &&& m' ≠ v' &&& m) : off &&& m' ≠ v' := by
  rintro rfl
  rw [← h, BitVec.and_assoc, BitVec.and_assoc, BitVec.and_comm m] at hc
  exact hc rfl

/-- The offsets that the decoder tests for one by one: the registers of R60 and the reserved offset 0x044. -/
def listedOffsets : List Offset :=
  [0x000#12, 0x004#12, 0x008#12, 0x00C#12, 0x010#12, 0x014#12, 0x018#12, 0x01C#12, 0x020#12, 0x024#12, 0x028#12, 0x02C#12,
    0x030#12, 0x034#12, 0x038#12, 0x03C#12, 0x040#12, 0x080#12, 0x084#12, 0x088#12, 0x08C#12, 0x090#12, 0x094#12, 0x098#12,
    0x09C#12, 0x0A0#12, 0x0A4#12, 0x0A8#12, 0x0AC#12, 0x0B0#12, 0x0B4#12, 0x0B8#12, 0x0BC#12, 0x0C0#12, 0x0C4#12, 0x0C8#12,
    0x0CC#12, 0x0D0#12, 0x0D4#12, 0x044#12]

/-- The masks and values of the reserved rows that follow, but for the last row's. -/
def reservedMasks : List (Offset × Offset) :=
  [(0xFFB#12, 0x048#12), (0xFF3#12, 0x050#12), (0xFE3#12, 0x060#12), (0xFFB#12, 0x0D8#12), (0xFE3#12, 0x0E0#12),
    (0xF03#12, 0x100#12), (0xE03#12, 0x200#12), (0xC03#12, 0x400#12)]

/-- The mask and the value of the last reserved row, which the decoder does not test. -/
def lastReservedMask : Offset × Offset := (0x803#12, 0x800#12)

/-- The writes to the reserved offsets of `reservedMasks`. -/
def maskedWrites (off : Offset) (w : Word) : List Instr :=
  [.wrReserved048 off w, .wrReserved050 off w, .wrReserved060 off w, .wrReserved0D8 off w, .wrReserved0E0 off w,
    .wrReserved100 off w, .wrReserved200 off w, .wrReserved400 off w]

/-- The reads of the reserved offsets of `reservedMasks`. -/
def maskedReads (off : Offset) : List Instr :=
  [.rdReserved048 off, .rdReserved050 off, .rdReserved060 off, .rdReserved0D8 off, .rdReserved0E0 off,
    .rdReserved100 off, .rdReserved200 off, .rdReserved400 off]

/-- The first of `rows` whose mask the offset meets, or `last`. -/
def maskedRow (off : Offset) (last : Instr) : List (Offset × Offset) → List Instr → Instr
  | t :: ts, row :: rows => if off &&& t.1 = t.2 then row else maskedRow off last ts rows
  | [], _ => last
  | _ :: _, [] => last

/-- Where no mask is met the row is the last. -/
theorem maskedRow_last {off : Offset} {last : Instr} {ts : List (Offset × Offset)} {rows : List Instr}
    (h : ∀ t ∈ ts, off &&& t.1 ≠ t.2) : maskedRow off last ts rows = last := by
  induction ts generalizing rows with
  | nil => rfl
  | cons t ts ih =>
    cases rows with
    | nil => rfl
    | cons row rows =>
      rw [maskedRow, if_neg (h t List.mem_cons_self), ih fun u hu => h u (List.mem_cons_of_mem t hu)]

/-- Where the masks exclude each other the row is that of the mask that is met. -/
theorem maskedRow_of_mem {off : Offset} {last row : Instr} {t : Offset × Offset} {ts : List (Offset × Offset)}
    {rows : List Instr} (hpw : ts.Pairwise fun u u' => u'.2 &&& u.1 ≠ u.2 &&& u'.1) (hmem : (t, row) ∈ ts.zip rows)
    (h : off &&& t.1 = t.2) : maskedRow off last ts rows = row := by
  induction ts generalizing rows with
  | nil => cases hmem
  | cons u ts ih =>
    cases rows with
    | nil => cases hmem
    | cons row' rows =>
      obtain ⟨hu, hts⟩ := List.pairwise_cons.mp hpw
      rw [List.zip_cons_cons, List.mem_cons] at hmem
      obtain heq | hmem := hmem
      · obtain ⟨rfl, rfl⟩ := Prod.mk.inj heq
        exact if_pos h
      · rw [maskedRow, if_neg (and_ne_of_conflict h (hu t (List.of_mem_zip hmem).1)), ih hts hmem]

/-- The masks fix the low two bits to 0, and no listed offset meets one. -/
theorem reserved_masks_sound :
    (lastReservedMask :: reservedMasks).all (fun t => t.1.extractLsb' 0 2 == BitVec.allOnes 2 && t.2.extractLsb' 0 2 == 0
      && listedOffsets.all fun lit => lit &&& t.1 != t.2) = true := by
  decide

theorem reserved_masks_disjoint :
    (lastReservedMask :: reservedMasks).Pairwise fun t u => u.2 &&& t.1 ≠ t.2 &&& u.1 := by
  decide

theorem aligned_unlisted_of_mask {off : Offset} {t : Offset × Offset} (ht : t ∈ lastReservedMask :: reservedMasks)
    (h : off &&& t.1 = t.2) : off.extractLsb' 0 2 = 0 ∧ off ∉ listedOffsets := by
  have hsound := List.all_eq_true.mp reserved_masks_sound t ht
  simp only [Bool.and_eq_true, beq_iff_eq, List.all_eq_true, bne_iff_ne] at hsound
  obtain ⟨⟨hm, hv⟩, hlit⟩ := hsound
  refine ⟨?_, fun hmem => hlit off hmem h⟩
  rw [← h, BitVec.extractLsb'_and, hm, BitVec.and_allOnes] at hv
  exact hv

/-- An offset of 0x100 or above, by the highest bit set in its upper four, meets one of the last four masks. -/
theorem upper_nibble_masks : ∀ hi : BitVec 4, hi ≠ 0 →
    hi &&& 0xF#4 = 0x1#4 ∨ hi &&& 0xE#4 = 0x2#4 ∨ hi &&& 0xC#4 = 0x4#4 ∨ hi &&& 0x8#4 = 0x8#4 := by
  decide

/-- Below 0x100 every aligned offset is listed or meets one of the masks. -/
theorem aligned_low_offset : ∀ n : BitVec 6,
    0#4 ++ (n ++ 0#2) ∈ listedOffsets ∨ ∃ t ∈ reservedMasks, (0#4 ++ (n ++ 0#2)) &&& t.1 = t.2 := by
  decide

/-- The last reserved row takes what is left of the window: everything from 0x800 on. -/
theorem last_reserved_mask {off : Offset} (ha : off.extractLsb' 0 2 = 0) (hl : off ∉ listedOffsets)
    (hr : ∀ t ∈ reservedMasks, off &&& t.1 ≠ t.2) : off &&& 0x803#12 = 0x800#12 := by
  obtain ⟨hi, n, rfl⟩ : ∃ (hi : BitVec 4) (n : BitVec 6), off = hi ++ (n ++ 0#2) := by
    refine ⟨off.extractLsb' 8 4, off.extractLsb' 2 6, ?_⟩
    have hlow : off.extractLsb' 2 6 ++ (0 : BitVec 2) = off.extractLsb' 0 8 := by
      rw [← ha]; exact BitVec.extractLsb'_append_extractLsb'_eq_extractLsb' rfl
    exact (BitVec.extractLsb'_append_extractLsb' (w := 4) (len := 8)).symm.trans
      (congrArg (off.extractLsb' 8 4 ++ ·) hlow.symm)
  have hmask (m v : BitVec 4) (h : hi &&& m = v) : (hi ++ (n ++ 0#2)) &&& (m ++ (0#6 ++ 3#2)) = v ++ (0#6 ++ 0#2) := by
    rw [BitVec.and_append, BitVec.and_append, h, BitVec.and_zero, BitVec.zero_and]
  by_cases hz : hi = 0
  · subst hz
    obtain h | ⟨t, ht, h⟩ := aligned_low_offset n
    · exact absurd h hl
    · exact absurd h (hr t ht)
  · obtain h | h | h | h := upper_nibble_masks hi hz
    · exact absurd (hmask _ _ h) (hr (0xF03#12, 0x100#12) (by decide))
    · exact absurd (hmask _ _ h) (hr (0xE03#12, 0x200#12) (by decide))
    · exact absurd (hmask _ _ h) (hr (0xC03#12, 0x400#12) (by decide))
    · exact hmask _ _ h

/-! ### The decoder at aligned offsets -/

/-- An aligned offset that is not listed is decoded by the masks of the reserved rows. -/
theorem decodeWrite_unlisted {off : Offset} (ha : off.extractLsb' 0 2 = 0) (hl : off ∉ listedOffsets) (w : Word) :
    decodeWrite off w = maskedRow off (.wrReserved800 off w) reservedMasks (maskedWrites off w) := by
  obtain ⟨h0, h1⟩ := Machine.aligned_bits ha
  simp only [listedOffsets, List.mem_cons, List.not_mem_nil, not_or] at hl
  simp only [decodeWrite, h0, h1, hl, Bool.false_eq_true, if_false]
  rfl

theorem decodeRead_unlisted {off : Offset} (ha : off.extractLsb' 0 2 = 0) (hl : off ∉ listedOffsets) :
    decodeRead off = maskedRow off (.rdReserved800 off) reservedMasks (maskedReads off) := by
  obtain ⟨h0, h1⟩ := Machine.aligned_bits ha
  simp only [listedOffsets, List.mem_cons, List.not_mem_nil, not_or] at hl
  simp only [decodeRead, h0, h1, hl, Bool.false_eq_true, if_false]
  rfl

theorem decodeWrite_of_mask {off : Offset} {w : Word} {t : Offset × Offset} {row : Instr}
    (hmem : (t, row) ∈ reservedMasks.zip (maskedWrites off w)) (h : off &&& t.1 = t.2) : decodeWrite off w = row := by
  obtain ⟨ha, hl⟩ := aligned_unlisted_of_mask (List.mem_cons_of_mem _ (List.of_mem_zip hmem).1) h
  rw [decodeWrite_unlisted ha hl, maskedRow_of_mem (List.pairwise_cons.mp reserved_masks_disjoint).2 hmem h]

theorem decodeRead_of_mask {off : Offset} {t : Offset × Offset} {row : Instr}
    (hmem : (t, row) ∈ reservedMasks.zip (maskedReads off)) (h : off &&& t.1 = t.2) : decodeRead off = row := by
  obtain ⟨ha, hl⟩ := aligned_unlisted_of_mask (List.mem_cons_of_mem _ (List.of_mem_zip hmem).1) h
  rw [decodeRead_unlisted ha hl, maskedRow_of_mem (List.pairwise_cons.mp reserved_masks_disjoint).2 hmem h]

/-- From 0x800 on no other mask is met. -/
theorem masks_unmet_of_last {off : Offset} (h : off &&& 0x803#12 = 0x800#12) : ∀ t ∈ reservedMasks, off &&& t.1 ≠ t.2 :=
  fun t ht => and_ne_of_conflict h ((List.pairwise_cons.mp reserved_masks_disjoint).1 t ht).symm

theorem decodeWrite_last {off : Offset} (w : Word) (h : off &&& 0x803#12 = 0x800#12) : decodeWrite off w = .wrReserved800 off w := by
  obtain ⟨ha, hl⟩ := aligned_unlisted_of_mask (t := lastReservedMask) List.mem_cons_self h
  rw [decodeWrite_unlisted ha hl, maskedRow_last (masks_unmet_of_last h)]

theorem decodeRead_last {off : Offset} (h : off &&& 0x803#12 = 0x800#12) : decodeRead off = .rdReserved800 off := by
  obtain ⟨ha, hl⟩ := aligned_unlisted_of_mask (t := lastReservedMask) List.mem_cons_self h
  rw [decodeRead_unlisted ha hl, maskedRow_last (masks_unmet_of_last h)]

end Sys2Proof
end

section
/-! The words written to CMD by their lowest reserved bit, and the two round trips. -/

namespace Sys2Proof

/-! ### The illegal command words by their lowest reserved bit -/

/-- The rows of the illegal command words with a reserved bit set, from bit 6 up to bit 30. -/
def reservedBitRows (w : Word) : List Instr :=
  [.wrCmdIllegalBit6 w, .wrCmdIllegalBit7 w, .wrCmdIllegalBit8 w, .wrCmdIllegalBit9 w, .wrCmdIllegalBit10 w,
    .wrCmdIllegalBit11 w, .wrCmdIllegalBit12 w, .wrCmdIllegalBit13 w, .wrCmdIllegalBit14 w, .wrCmdIllegalBit15 w,
    .wrCmdIllegalBit16 w, .wrCmdIllegalBit17 w, .wrCmdIllegalBit18 w, .wrCmdIllegalBit19 w, .wrCmdIllegalBit20 w,
    .wrCmdIllegalBit21 w, .wrCmdIllegalBit22 w, .wrCmdIllegalBit23 w, .wrCmdIllegalBit24 w, .wrCmdIllegalBit25 w,
    .wrCmdIllegalBit26 w, .wrCmdIllegalBit27 w, .wrCmdIllegalBit28 w, .wrCmdIllegalBit29 w, .wrCmdIllegalBit30 w]

/-- The row of the first bit, counted from `k`, that is set in the word, or `last`. -/
def firstBitRow (w : Word) (last : Instr) : Nat → List Instr → Instr
  | k, row :: rows => if w.getLsbD k then row else firstBitRow w last (k + 1) rows
  | _, [] => last

theorem firstBitRow_eq {w : Word} {last row : Instr} {k j : Nat} {rows : List Instr} (hrow : (rows ++ [last])[j]? = some row)
    (hbit : w.getLsbD (k + j) = true) (hlow : ∀ i < j, w.getLsbD (k + i) = false) : firstBitRow w last k rows = row := by
  induction rows generalizing k j with
  | nil =>
    cases j with
    | zero => exact Option.some.inj hrow
    | succ j => cases hrow
  | cons row' rows ih =>
    cases j with
    | zero => exact (if_pos hbit).trans (Option.some.inj hrow)
    | succ j =>
      have hk : w.getLsbD k = false := hlow 0 (Nat.succ_pos j)
      rw [firstBitRow, if_neg (Bool.eq_false_iff.mp hk)]
      exact ih hrow (by rwa [Nat.add_right_comm]) fun i hi => by
        rw [Nat.add_right_comm]; exact hlow (i + 1) (Nat.succ_lt_succ hi)

/-- Bit `6 + j` is the lowest reserved bit of R92 that is set in the word. -/
abbrev LowestReservedBit (w : Word) (j : Nat) : Prop := w.getLsbD (6 + j) = true ∧ w.extractLsb' 6 j = 0

theorem LowestReservedBit.reserved {w : Word} {j : Nat} (h : LowestReservedBit w j) : w.extractLsb' 6 26 ≠ 0 := by
  intro hz
  have hj : 6 + j < 32 := BitVec.lt_of_getLsbD h.1
  have := congrArg (fun v : BitVec 26 => v.getLsbD j) hz
  simp [h.1, show j < 26 by omega] at this

theorem exists_lowestReservedBit {w : Word} (h : w.extractLsb' 6 26 ≠ 0) : ∃ j, j < 26 ∧ LowestReservedBit w j := by
  refine ⟨(w.extractLsb' 6 26).ctz.toNat, ?_, ?_, ?_⟩
  · simpa [BitVec.lt_def] using BitVec.ctz_lt_iff_ne_zero.mpr h
  · have := BitVec.getLsbD_true_ctz_of_ne_zero h
    rw [BitVec.getLsbD_extractLsb', Bool.and_eq_true] at this
    exact this.2
  · refine BitVec.eq_of_getLsbD_eq fun i hi => ?_
    have hlow := BitVec.getLsbD_false_of_lt_ctz hi
    have hctz : (w.extractLsb' 6 26).ctz.toNat < 26 := by simpa [BitVec.lt_def] using BitVec.ctz_lt_iff_ne_zero.mpr h
    rw [BitVec.getLsbD_extractLsb', decide_eq_true (show i < 26 by omega), Bool.true_and] at hlow
    rw [BitVec.getLsbD_extractLsb', hlow, Bool.and_false]
    exact BitVec.getLsbD_zero.symm

/-- A word with a reserved bit fails the decoder's tests for words whose reserved bits are 0. -/
theorem ite_reserved {w m v : Word} {i j : Instr} (hw : w.extractLsb' 6 26 ≠ 0) (hm : m.extractLsb' 6 26 = BitVec.allOnes 26)
    (hv : v.extractLsb' 6 26 = 0) : (if w &&& m = v then i else j) = j := by
  refine if_neg fun h => hw ?_
  rw [← h, BitVec.extractLsb'_and, hm, BitVec.and_allOnes] at hv
  exact hv

theorem ite_legal {w c : Word} {i j : Instr} (hw : w.extractLsb' 6 26 ≠ 0) (hc : c.extractLsb' 6 26 = 0) :
    (if w = c then i else j) = j :=
  if_neg (by rintro rfl; exact hw hc)

theorem decodeCmd_reserved {w : Word} (hw : w.extractLsb' 6 26 ≠ 0) :
    decodeCmd w = firstBitRow w (.wrCmdIllegalBit31 w) 6 (reservedBitRows w) := by
  unfold decodeCmd
  iterate 30 refine (ite_legal hw (by decide)).trans ?_
  iterate 3 refine (ite_reserved hw (by decide) (by decide)).trans ?_
  rfl

theorem decodeCmd_lowestReservedBit {w : Word} {j : Nat} {row : Instr}
    (hrow : (reservedBitRows w ++ [.wrCmdIllegalBit31 w])[j]? = some row) (h : LowestReservedBit w j) :
    decodeCmd w = row := by
  rw [decodeCmd_reserved h.reserved]
  refine firstBitRow_eq hrow h.1 fun i hi => ?_
  have := congrArg (fun v : BitVec j => v.getLsbD i) h.2
  simpa [BitVec.getLsbD_extractLsb', hi] using this

/-- Every reserved bit's row is written at CMD, and admits the words whose lowest reserved bit it is. -/
theorem reservedBitRow_spec {w : Word} {j : Nat} {row : Instr}
    (hrow : (reservedBitRows w ++ [.wrCmdIllegalBit31 w])[j]? = some row) :
    encode row = .hostWrite (0x018#12 ++ w) ∧ (row.wf = true ↔ LowestReservedBit w j) := by
  have hj : j < 26 := by
    by_contra hge
    rw [List.getElem?_eq_none (by simpa [reservedBitRows] using hge)] at hrow
    cases hrow
  interval_cases j <;> obtain rfl := Option.some.inj hrow <;>
    exact ⟨rfl, by simp [Instr.wf, LowestReservedBit]⟩

/-! ### From an operation to its word and back (R91, R93, R98) -/

theorem decode_encode_reservedBitRow {w : Word} {i : Instr} (hi : i ∈ reservedBitRows w ++ [.wrCmdIllegalBit31 w])
    (hwf : i.wf = true) : decode (encode i) = i := by
  obtain ⟨j, hj⟩ := List.mem_iff_getElem?.mp hi
  obtain ⟨henc, hiff⟩ := reservedBitRow_spec hj
  rw [henc, Machine.decode_wrCmd, decodeCmd_lowestReservedBit hj (hiff.mp hwf)]

theorem exists_mask_of_row {i : Instr} {rows : List Instr} (hlen : reservedMasks.length = rows.length) (hi : i ∈ rows) :
    ∃ t, (t, i) ∈ reservedMasks.zip rows := by
  rw [← List.map_snd_zip (l₁ := reservedMasks) hlen.ge] at hi
  obtain ⟨⟨t, _⟩, hmem, rfl⟩ := List.mem_map.mp hi
  exact ⟨t, hmem⟩

theorem exists_row_of_mask {t : Offset × Offset} {rows : List Instr} (hlen : reservedMasks.length = rows.length)
    (ht : t ∈ reservedMasks) : ∃ i, (t, i) ∈ reservedMasks.zip rows := by
  rw [← List.map_fst_zip (l₂ := rows) hlen.le] at ht
  obtain ⟨⟨_, i⟩, hmem, rfl⟩ := List.mem_map.mp ht
  exact ⟨i, hmem⟩

/-- A masked reserved write is encoded at its operand's offset, and admits the offsets of its mask. -/
theorem maskedWrite_spec {off : Offset} {w : Word} {t : Offset × Offset} {i : Instr}
    (hmem : (t, i) ∈ reservedMasks.zip (maskedWrites off w)) :
    encode i = .hostWrite (off ++ w) ∧ (i.wf = true ↔ off &&& t.1 = t.2) := by
  obtain ⟨j, hj⟩ := List.mem_iff_getElem?.mp hmem
  have hlt : j < 8 := (List.getElem?_eq_some_iff.mp hj).1
  interval_cases j <;> obtain ⟨rfl, rfl⟩ := Prod.mk.inj (Option.some.inj hj) <;> exact ⟨rfl, beq_iff_eq⟩

theorem maskedRead_spec {off : Offset} {t : Offset × Offset} {i : Instr}
    (hmem : (t, i) ∈ reservedMasks.zip (maskedReads off)) :
    encode i = .hostRead off ∧ (i.wf = true ↔ off &&& t.1 = t.2) := by
  obtain ⟨j, hj⟩ := List.mem_iff_getElem?.mp hmem
  have hlt : j < 8 := (List.getElem?_eq_some_iff.mp hj).1
  interval_cases j <;> obtain ⟨rfl, rfl⟩ := Prod.mk.inj (Option.some.inj hj) <;> exact ⟨rfl, beq_iff_eq⟩

theorem decode_encode_maskedWrite {off : Offset} {w : Word} {i : Instr} (hi : i ∈ maskedWrites off w) (hwf : i.wf = true) :
    decode (encode i) = i := by
  obtain ⟨t, hmem⟩ := exists_mask_of_row rfl hi
  obtain ⟨henc, hiff⟩ := maskedWrite_spec hmem
  rw [henc, Machine.decode_hostWrite_append, decodeWrite_of_mask hmem (hiff.mp hwf)]

theorem decode_encode_maskedRead {off : Offset} {i : Instr} (hi : i ∈ maskedReads off) (hwf : i.wf = true) :
    decode (encode i) = i := by
  obtain ⟨t, hmem⟩ := exists_mask_of_row rfl hi
  obtain ⟨henc, hiff⟩ := maskedRead_spec hmem
  rw [henc, decode, decodeRead_of_mask hmem (hiff.mp hwf)]

theorem decode_encode_action3 : ∀ button : BitVec 4,
    decode (encode (.wrCmdIllegalAction3 button)) = .wrCmdIllegalAction3 button := by
  decide

theorem decode_encode_button10 : ∀ (action : BitVec 2) (low : BitVec 1), (Instr.wrCmdIllegalButton10 action low).wf = true →
    decode (encode (.wrCmdIllegalButton10 action low)) = .wrCmdIllegalButton10 action low := by
  decide

theorem decode_encode_button12 : ∀ action low : BitVec 2, (Instr.wrCmdIllegalButton12 action low).wf = true →
    decode (encode (.wrCmdIllegalButton12 action low)) = .wrCmdIllegalButton12 action low := by
  decide

theorem decodeWrite_misaligned0 {off : Offset} (w : Word) (h : off.getLsbD 0 = true) :
    decodeWrite off w = .wrMisalignedOff0 off w := if_pos h

theorem decodeWrite_misaligned1 {off : Offset} (w : Word) (h0 : off.getLsbD 0 = false) (h1 : off.getLsbD 1 = true) :
    decodeWrite off w = .wrMisalignedOff1 off w := (if_neg (Bool.eq_false_iff.mp h0)).trans (if_pos h1)

theorem decodeRead_misaligned0 {off : Offset} (h : off.getLsbD 0 = true) : decodeRead off = .rdMisalignedOff0 off := if_pos h

theorem decodeRead_misaligned1 {off : Offset} (h0 : off.getLsbD 0 = false) (h1 : off.getLsbD 1 = true) :
    decodeRead off = .rdMisalignedOff1 off := (if_neg (Bool.eq_false_iff.mp h0)).trans (if_pos h1)

theorem decodeCtrl_start {w : Word} (h : w.getLsbD 0 = true) : decodeCtrl w = .wrCtrlStart w := if_pos h

theorem decodeCtrl_noStart {w : Word} (h : w.getLsbD 0 = false) : decodeCtrl w = .wrCtrlNoStart w :=
  if_neg (Bool.eq_false_iff.mp h)

/-- Settles O1: a case per row whose operands `wf` restricts or whose words overlap; the other rows fix their offset, and the decoder
evaluates there. -/
theorem decodeOfEncodeIsIdentity : Obligations.DecodeOfEncodeIsIdentity := by
  intro i hwf
  cases i with
  | wrCtrlStart w => exact (Machine.decode_hostWrite_append _ w).trans (decodeCtrl_start hwf)
  | wrCtrlNoStart w => exact (Machine.decode_hostWrite_append _ w).trans (decodeCtrl_noStart (by simpa [Instr.wf] using hwf))
  | wrCmdIllegalAction3 button => exact decode_encode_action3 button
  | wrCmdIllegalButton10 action low => exact decode_encode_button10 action low hwf
  | wrCmdIllegalButton12 action low => exact decode_encode_button12 action low hwf
  | wrCmdIllegalBit6 w | wrCmdIllegalBit7 w | wrCmdIllegalBit8 w | wrCmdIllegalBit9 w | wrCmdIllegalBit10 w
  | wrCmdIllegalBit11 w | wrCmdIllegalBit12 w | wrCmdIllegalBit13 w | wrCmdIllegalBit14 w | wrCmdIllegalBit15 w
  | wrCmdIllegalBit16 w | wrCmdIllegalBit17 w | wrCmdIllegalBit18 w | wrCmdIllegalBit19 w | wrCmdIllegalBit20 w
  | wrCmdIllegalBit21 w | wrCmdIllegalBit22 w | wrCmdIllegalBit23 w | wrCmdIllegalBit24 w | wrCmdIllegalBit25 w
  | wrCmdIllegalBit26 w | wrCmdIllegalBit27 w | wrCmdIllegalBit28 w | wrCmdIllegalBit29 w | wrCmdIllegalBit30 w
  | wrCmdIllegalBit31 w => exact decode_encode_reservedBitRow (w := w) (by simp [reservedBitRows]) hwf
  | wrReserved048 off w | wrReserved050 off w | wrReserved060 off w | wrReserved0D8 off w | wrReserved0E0 off w
  | wrReserved100 off w | wrReserved200 off w | wrReserved400 off w =>
    exact decode_encode_maskedWrite (off := off) (w := w) (by simp [maskedWrites]) hwf
  | wrReserved800 off w => exact (Machine.decode_hostWrite_append off w).trans (decodeWrite_last w (beq_iff_eq.mp hwf))
  | rdReserved048 off | rdReserved050 off | rdReserved060 off | rdReserved0D8 off | rdReserved0E0 off | rdReserved100 off
  | rdReserved200 off | rdReserved400 off =>
    exact decode_encode_maskedRead (off := off) (by simp [maskedReads]) hwf
  | rdReserved800 off => exact decodeRead_last (beq_iff_eq.mp hwf)
  | wrMisalignedOff0 off w => exact (Machine.decode_hostWrite_append off w).trans (decodeWrite_misaligned0 w hwf)
  | rdMisalignedOff0 off => exact decodeRead_misaligned0 hwf
  | wrMisalignedOff1 off w =>
    obtain ⟨h0, h1⟩ : off.getLsbD 0 = false ∧ off.getLsbD 1 = true := by simpa [Instr.wf] using hwf
    exact (Machine.decode_hostWrite_append off w).trans (decodeWrite_misaligned1 w h0 h1)
  | rdMisalignedOff1 off =>
    obtain ⟨h0, h1⟩ : off.getLsbD 0 = false ∧ off.getLsbD 1 = true := by simpa [Instr.wf] using hwf
    exact decodeRead_misaligned1 h0 h1
  | idleLine kPrev kCur d | csAssert kPrev kCur d | csDeassert kPrev kCur d => revert kPrev kCur d; decide
  | bit d | heldInactive d | heldReturn d | heldActive d => revert d; decide
  | _ => first | rfl | exact (Machine.decode_hostWrite_append _ _).trans rfl

/-! ### From a word to its operation and back (R90, R98) -/

/-- The operation is well-formed and the word is its encoding. -/
abbrev EncodesBack (op : OpWord) (i : Instr) : Prop := encode i = op ∧ i.wf = true

theorem encodesBack_decodeCtrl (w : Word) : EncodesBack (.hostWrite (0x004#12 ++ w)) (decodeCtrl w) := by
  cases h : w.getLsbD 0 with
  | true => rw [decodeCtrl_start h]; exact ⟨rfl, h⟩
  | false => rw [decodeCtrl_noStart h]; exact ⟨rfl, by rw [Instr.wf, h]; rfl⟩

/-- The 64 command words whose reserved bits are 0. -/
theorem encodesBack_decodeCmd_low : ∀ n : BitVec 6,
    EncodesBack (.hostWrite (0x018#12 ++ (0#26 ++ n))) (decodeCmd (0#26 ++ n)) := by
  decide

theorem encodesBack_decodeCmd (w : Word) : EncodesBack (.hostWrite (0x018#12 ++ w)) (decodeCmd w) := by
  by_cases hres : w.extractLsb' 6 26 = 0
  · have hw : w = 0#26 ++ w.extractLsb' 0 6 := by
      have := (BitVec.extractLsb'_append_extractLsb' (w := 26) (len := 6) (x := w)).symm
      rwa [hres] at this
    rw [hw]
    exact encodesBack_decodeCmd_low _
  · obtain ⟨j, hj, hlow⟩ := exists_lowestReservedBit hres
    have hrow := List.getElem?_eq_getElem (l := reservedBitRows w ++ [.wrCmdIllegalBit31 w]) hj
    obtain ⟨henc, hiff⟩ := reservedBitRow_spec hrow
    rw [decodeCmd_lowestReservedBit hrow hlow]
    exact ⟨henc, hiff.mpr hlow⟩

theorem encodesBack_decodeWrite_listed (w : Word) :
    ∀ off ∈ listedOffsets, EncodesBack (.hostWrite (off ++ w)) (decodeWrite off w) := by
  intro off h
  by_cases hctrl : off = 0x004#12
  · exact hctrl ▸ encodesBack_decodeCtrl w
  by_cases hcmd : off = 0x018#12
  · exact hcmd ▸ encodesBack_decodeCmd w
  fin_cases h
  all_goals first | contradiction | exact ⟨rfl, rfl⟩

theorem encodesBack_decodeWrite_unlisted {off : Offset} (ha : off.extractLsb' 0 2 = 0) (hl : off ∉ listedOffsets) (w : Word) :
    EncodesBack (.hostWrite (off ++ w)) (decodeWrite off w) := by
  by_cases hmet : ∃ t ∈ reservedMasks, off &&& t.1 = t.2
  · obtain ⟨t, ht, h⟩ := hmet
    obtain ⟨i, hmem⟩ := exists_row_of_mask (rows := maskedWrites off w) rfl ht
    obtain ⟨henc, hiff⟩ := maskedWrite_spec hmem
    rw [decodeWrite_of_mask hmem h]
    exact ⟨henc, hiff.mpr h⟩
  · have h := last_reserved_mask ha hl fun t ht h => hmet ⟨t, ht, h⟩
    rw [decodeWrite_last w h]
    exact ⟨rfl, beq_iff_eq.mpr h⟩

theorem encodesBack_decodeRead_listed : listedOffsets.all (fun off => EncodesBack (.hostRead off) (decodeRead off)) = true := by
  decide

theorem encodesBack_decodeRead_unlisted {off : Offset} (ha : off.extractLsb' 0 2 = 0) (hl : off ∉ listedOffsets) :
    EncodesBack (.hostRead off) (decodeRead off) := by
  by_cases hmet : ∃ t ∈ reservedMasks, off &&& t.1 = t.2
  · obtain ⟨t, ht, h⟩ := hmet
    obtain ⟨i, hmem⟩ := exists_row_of_mask (rows := maskedReads off) rfl ht
    obtain ⟨henc, hiff⟩ := maskedRead_spec hmem
    rw [decodeRead_of_mask hmem h]
    exact ⟨henc, hiff.mpr h⟩
  · have h := last_reserved_mask ha hl fun t ht h => hmet ⟨t, ht, h⟩
    rw [decodeRead_last h]
    exact ⟨rfl, beq_iff_eq.mpr h⟩

theorem encodesBack_decodeWrite (off : Offset) (w : Word) : EncodesBack (.hostWrite (off ++ w)) (decodeWrite off w) := by
  by_cases ha : off.extractLsb' 0 2 = 0
  · by_cases hl : off ∈ listedOffsets
    · exact encodesBack_decodeWrite_listed w off hl
    · exact encodesBack_decodeWrite_unlisted ha hl w
  · cases h0 : off.getLsbD 0 with
    | true => rw [decodeWrite_misaligned0 w h0]; exact ⟨rfl, h0⟩
    | false =>
      have h1 := (Machine.misaligned_bit ha).resolve_left (Bool.eq_false_iff.mp h0)
      rw [decodeWrite_misaligned1 w h0 h1]
      exact ⟨rfl, by rw [Instr.wf, h0, h1]; rfl⟩

theorem encodesBack_decodeRead (off : Offset) : EncodesBack (.hostRead off) (decodeRead off) := by
  by_cases ha : off.extractLsb' 0 2 = 0
  · by_cases hl : off ∈ listedOffsets
    · exact of_decide_eq_true (List.all_eq_true.mp encodesBack_decodeRead_listed off hl)
    · exact encodesBack_decodeRead_unlisted ha hl
  · cases h0 : off.getLsbD 0 with
    | true => rw [decodeRead_misaligned0 h0]; exact ⟨rfl, h0⟩
    | false =>
      have h1 := (Machine.misaligned_bit ha).resolve_left (Bool.eq_false_iff.mp h0)
      rw [decodeRead_misaligned1 h0 h1]
      exact ⟨rfl, by rw [Instr.wf, h0, h1]; rfl⟩

theorem encodesBack_decodeEvent : ∀ e : BitVec 5, EncodesBack (.busEvent e) (decodeEvent e) := by
  decide

/-- Settles O2. -/
theorem encodeOfDecodeIsIdentity : Obligations.EncodeOfDecodeIsIdentity := by
  intro op
  cases op with
  | hostWrite t =>
    have ht : t.extractLsb' 32 12 ++ t.extractLsb' 0 32 = t := BitVec.extractLsb'_append_extractLsb' (w := 12) (len := 32)
    have := encodesBack_decodeWrite (t.extractLsb' 32 12) (t.extractLsb' 0 32)
    rwa [ht] at this
  | hostRead off => exact encodesBack_decodeRead off
  | busEvent e => exact encodesBack_decodeEvent e

/-- Settles O3, by evaluation. -/
theorem writtenOutWordsDecode : Obligations.WrittenOutWordsDecode := by
  refine ⟨?_, ?_, ?_, ?_, ?_, ?_, ?_, ?_⟩ <;> decide

/-! ### The event word of two samples (R98, R125) -/

/-- The decoder's tests, in their order, on an event word put together from its five bits. -/
theorem decodeEvent_eventBits (aPrev kPrev aCur kCur d : Bool) : decodeEvent (eventBits aPrev kPrev aCur kCur d) =
    if !aPrev && aCur then .csAssert kPrev kCur d
    else if aPrev && !aCur then .csDeassert kPrev kCur d
    else if aPrev && aCur && !kPrev && kCur then .bit d
    else if !aPrev && !aCur then .idleLine kPrev kCur d
    else if aPrev && aCur && !kPrev && !kCur then .heldInactive d
    else if aPrev && aCur && kPrev && !kCur then .heldReturn d
    else .heldActive d := by
  revert aPrev kPrev aCur kCur d; decide

/-- Settles O4: the sampler's event word holds the asserted and the active levels of the two samples and the data level. -/
theorem eventWordClassification : Obligations.EventWordClassification := by
  intro p prev cur aPrev aCur k kPrev kCur e
  have he : e = _ := decodeEvent_eventBits aPrev kPrev aCur kCur cur.dat
  refine ⟨fun ha ha' => ?_, fun ha ha' => ?_, fun ha ha' => ?_, fun ha ha' hk hk' => ?_, fun ha ha' hk hk' => ?_,
    fun ha ha' hk hk' => ?_, fun ha ha' hk hk' => ?_⟩
  iterate 3 rw [he, ha, ha']; rfl
  iterate 4 rw [he, ha, ha', hk, hk']; rfl

end Sys2Proof
end

section
/-! Profiles (R111) and completed frames (`41_frame_decoder.md`): the checks of START, the capture of a bit, the last bit of a frame
with and without a good checksum, and the assembly of a field. -/

namespace Sys2Proof

/-! ### Well-formed profiles (R111) -/

theorem codeLengthOk_iff (c : List Bool) : codeLengthOk c = true ↔ 1 ≤ c.length ∧ c.length ≤ 64 := by
  simp [codeLengthOk]

theorem ticksOk_iff (n : Nat) : ticksOk n = true ↔ 1 ≤ n ∧ n ≤ 2 ^ 32 - 1 := by
  simp [ticksOk]

theorem Profile.fieldOk_iff (p : Profile) (f : FieldId) : p.fieldOk f = true ↔
    ∀ o w, p.fieldOffsets.get f = some (o, w) →
      1 ≤ w ∧ w ≤ 64 ∧ o + w ≤ p.frameBitCount ∧ (2 ≤ f.code → f.code ≤ 8 → w = 1) := by
  unfold Profile.fieldOk
  cases h : p.fieldOffsets.get f with
  | none => simp
  | some place =>
    obtain ⟨o, w⟩ := place
    have hflag : (!f.isFlag || w == 1) = true ↔ (2 ≤ f.code → f.code ≤ 8 → w = 1) := by
      rw [← and_imp, ← f.isFlag_iff]
      cases f.isFlag <;> simp
    simp [← hflag, and_assoc]

theorem Profile.buttonOk_iff (p : Profile) (b : ButtonId) :
    p.buttonOk b = true ↔ ∀ c, p.buttonCode.get b = some c → 1 ≤ c.length ∧ c.length ≤ 64 := by
  unfold Profile.buttonOk
  cases h : p.buttonCode.get b with
  | none => simp
  | some c => simp [codeLengthOk_iff]

/-- Settles O16: each check of START is its line of the rule. -/
theorem wellFormedProfileIsRuleR111 : Obligations.WellFormedProfileIsRuleR111 := by
  intro p
  simp only [Profile.wf, Bool.and_eq_true, decide_eq_true_eq, List.all_eq_true, FieldId.mem_all, ButtonId.mem_all, true_imp_iff,
    p.fieldOk_iff, p.buttonOk_iff, codeLengthOk_iff, ticksOk_iff, List.forall_mem_cons, List.not_mem_nil, false_imp_iff,
    implies_true, and_true, and_assoc]

/-! ### Typed decoding (R152) -/

theorem Profile.decode_isSome (p : Profile) (f : FieldId) (r : Word64) : (p.decode f r).isSome = p.recognises f r := by
  unfold Profile.decode
  cases p.recognises f r <;> rfl

theorem Profile.decode_flag (p : Profile) {f : FieldId} (hf : f.isFlag = true) (r : Word64) :
    p.decode f r = some (.flag (decide (r = 1))) := by
  cases f <;> first | rfl | cases hf

/-! ### The checksum verdict (R149) -/

theorem Profile.checksumPasses_iff (p : Profile) (v : FrameBits) : p.checksumPasses v = true ↔
    ∀ ck, p.checksumRule = some ck → ck.eval (fun i => v.getLsbD i) = true := by
  unfold Profile.checksumPasses
  cases p.checksumRule with
  | none => simp
  | some ck => simp

/-! ### Field assembly (R150) -/

/-- The bits of a number below `2 ^ w`, each at its weight, add up to the number. -/
theorem sum_bits_eq_mod (r w : Nat) :
    ((List.range w).map fun j => if r.testBit j then 2 ^ j else 0).sum = r % 2 ^ w := by
  induction w with
  | zero => simp [Nat.mod_one]
  | succ w ih =>
    rw [List.range_succ, List.map_append, List.sum_append, ih, Nat.mod_pow_succ, ← Nat.toNat_testBit]
    cases h : r.testBit w <;> simp [h]

theorem assemble_lsbFirst {v : FrameBits} {o w r : Nat} (hr : r < 2 ^ w) (h : ∀ j < w, v.getLsbD (o + j) = r.testBit j) :
    assemble v o w .lsbFirst = BitVec.ofNat 64 r := by
  have hterm : (List.range w).map (assembleTerm v o w .lsbFirst) =
      (List.range w).map fun j => if r.testBit j then 2 ^ j else 0 :=
    List.map_congr_left fun j hj => by rw [assembleTerm, h j (List.mem_range.mp hj)]
  rw [assemble, hterm, sum_bits_eq_mod, Nat.mod_eq_of_lt hr]

theorem assemble_msbFirst {v : FrameBits} {o w r : Nat} (hr : r < 2 ^ w)
    (h : ∀ j < w, v.getLsbD (o + j) = r.testBit (w - 1 - j)) : assemble v o w .msbFirst = BitVec.ofNat 64 r := by
  have hterm : (List.range w).map (assembleTerm v o w .msbFirst) =
      ((List.range w).map fun j => if r.testBit j then 2 ^ j else 0).reverse := by
    have hrev : (List.range w).reverse = (List.range w).map (w - 1 - ·) := by
      rw [List.range_eq_range', List.reverse_range', Nat.zero_add, List.range_eq_range']
    rw [← List.map_reverse, hrev, List.map_map]
    refine List.map_congr_left fun j hj => ?_
    simp only [assembleTerm, h j (List.mem_range.mp hj), Function.comp_apply]
  rw [assemble, hterm, List.sum_reverse, sum_bits_eq_mod, Nat.mod_eq_of_lt hr]

/-- Settles O46: the sum over the slice is the sum of the pattern's bits, from its last bit down under MsbFirst. -/
theorem assembleRecoversThePattern : Obligations.AssembleRecoversThePattern :=
  fun _ _ _ _ _ hr => ⟨assemble_msbFirst hr, assemble_lsbFirst hr⟩

namespace Machine

/-! ### The capture of a bit (R144) -/

/-- Below 256 bits BIT_CNT counts without wrapping. -/
theorem toNat_succ_bitCnt {c : BitVec 9} {n : Nat} (h : c.toNat < n) (hn : n ≤ 256) : (c + 1).toNat = c.toNat + 1 := by
  bv_omega

/-- RAW with the bit `d` at the index BIT_CNT. -/
abbrev rawWithBit (d : Bool) (s : State) : FrameBits := setFrameBit s.dec.raw s.dec.bitCnt.toNat d

theorem getLsbD_rawWithBit {d : Bool} {s : State} (h : s.dec.bitCnt.toNat < 256) (i : Nat) :
    (rawWithBit d s).getLsbD i = if i = s.dec.bitCnt.toNat then d else s.dec.raw.getLsbD i :=
  getLsbD_setFrameBit _ _ i d h

theorem onBit_accumulating (d : Bool) (p : Profile) {s : State} (h : s.dec.state = .accumulating) :
    onBit d p s = captureBit p d s := by
  simp only [onBit, h]

theorem captureBit_short {p : Profile} {s : State} (d : Bool) (h : (s.dec.bitCnt + 1).toNat ≠ p.frameBitCount) :
    captureBit p d s = { s with dec := { s.dec with raw := rawWithBit d s, bitCnt := s.dec.bitCnt + 1 } } := if_neg h

theorem captureBit_last {p : Profile} {s : State} (d : Bool) (h : (s.dec.bitCnt + 1).toNat = p.frameBitCount) :
    captureBit p d s =
      completeFrame p
        { s with dec := { s.dec with raw := rawWithBit d s, bitCnt := s.dec.bitCnt + 1, state := .complete } } := if_pos h

theorem completeFrame_good {p : Profile} {s : State} (h : p.checksumPasses (p.frame s.dec.raw) = true) :
    completeFrame p s =
      { s with
        dec := { s.dec with state := .idle }
        bank := updateBank p (p.frame s.dec.raw) s.now s.bank
        sig := { s.sig with frameEnd := true } } := if_pos h

theorem completeFrame_bad {p : Profile} {s : State} (h : p.checksumPasses (p.frame s.dec.raw) = false) :
    completeFrame p s =
      { s with
        dec := { s.dec with state := .idle, invalidCount := s.dec.invalidCount + 1, errCause := 2 }
        sig := { s.sig with frameEnd := true } } := if_neg (Bool.eq_false_iff.mp h)

/-- While Running and Accumulating, BIT(d) captures its bit. -/
theorem exec_bit_accumulating {s : State} {p : Profile} (d : Bool) (hr : s.run = .running p)
    (hacc : s.dec.state = .accumulating) : exec (.bit d) s = .next (captureBit p d s) := by
  rw [exec_bit, decoderStep_running (onBit d) hr (hacc ▸ DecoderState.settled_accumulating), onBit_accumulating d p hacc]

/-! ### The live bank after a frame (R151) -/

theorem updateBank_mapped {p : Profile} {f : FieldId} {o w : Nat} (h : p.fieldOffsets.get f = some (o, w)) (v : FrameBits)
    (t : Word64) (k : FieldBank) :
    (updateBank p v t k).raw.get f = assemble v o w p.bitOrder
      ∧ (updateBank p v t k).known.get f = (p.decode f (assemble v o w p.bitOrder)).isSome := by
  simp only [updateBank, PerField.get_ofFn, h, p.decode_isSome, and_self]

theorem updateBank_unmapped {p : Profile} {f : FieldId} (h : p.fieldOffsets.get f = none) (v : FrameBits) (t : Word64)
    (k : FieldBank) : (updateBank p v t k).raw.get f = k.raw.get f ∧ (updateBank p v t k).known.get f = k.known.get f := by
  simp only [updateBank, PerField.get_ofFn, h, and_self]

/-! ### The statements -/

/-- Settles O42: short of the frame's length the capture writes RAW at BIT_CNT and counts. -/
theorem bitIsStoredAtItsArrivalIndex : Obligations.BitIsStoredAtItsArrivalIndex := by
  intro s p d hr hwf hacc hshort
  obtain ⟨⟨-, hmax⟩, -⟩ := (wellFormedProfileIsRuleR111 p).mp hwf
  have hcnt := toNat_succ_bitCnt (c := s.dec.bitCnt) (n := p.frameBitCount) (by omega) hmax
  have hraw := getLsbD_rawWithBit (d := d) (s := s) (by omega)
  refine ⟨rawWithBit d s, ?_, (hraw _).trans (if_pos rfl), fun i hi => (hraw i).trans (if_neg hi)⟩
  rw [exec_bit_accumulating d hr hacc, captureBit_short d (by omega)]

section LastBit

variable {s : State} {p : Profile} {d : Bool} {v : FrameBits}

/-- The complete frame is the first bits of RAW with the last bit captured. -/
theorem frame_eq_of_lastBit (hwf : p.wf = true) (hlast : s.dec.bitCnt.toNat + 1 = p.frameBitCount)
    (hv : ∀ i, v.getLsbD i = (decide (i < p.frameBitCount) && if i = s.dec.bitCnt.toNat then d else s.dec.raw.getLsbD i)) :
    p.frame (rawWithBit d s) = v := by
  obtain ⟨⟨-, hmax⟩, -⟩ := (wellFormedProfileIsRuleR111 p).mp hwf
  refine BitVec.eq_of_getLsbD_eq fun i _ => ?_
  rw [Profile.frame, getLsbD_firstBits, getLsbD_rawWithBit (by omega), hv]

/-- The last bit completes the frame. -/
theorem exec_lastBit (hr : s.run = .running p) (hwf : p.wf = true) (hacc : s.dec.state = .accumulating)
    (hlast : s.dec.bitCnt.toNat + 1 = p.frameBitCount) :
    exec (.bit d) s =
      .next (completeFrame p
        { s with dec := { s.dec with raw := rawWithBit d s, bitCnt := s.dec.bitCnt + 1, state := .complete } }) := by
  obtain ⟨⟨-, hmax⟩, -⟩ := (wellFormedProfileIsRuleR111 p).mp hwf
  have hcnt := toNat_succ_bitCnt (c := s.dec.bitCnt) (n := p.frameBitCount) (by omega) hmax
  rw [exec_bit_accumulating d hr hacc, captureBit_last d (by omega)]

end LastBit

/-- Settles O43: the last bit completes the frame, and a frame that passes updates the live bank. -/
theorem lastBitAppliesAGoodFrame : Obligations.LastBitAppliesAGoodFrame := by
  intro s p d v hr hwf hacc hlast hv hck
  obtain ⟨⟨-, hmax⟩, -⟩ := (wellFormedProfileIsRuleR111 p).mp hwf
  have hframe := frame_eq_of_lastBit hwf hlast hv
  have hpass : p.checksumPasses (p.frame (rawWithBit d s)) = true := hframe ▸ (p.checksumPasses_iff v).mpr hck
  refine ⟨rawWithBit d s, updateBank p v s.now s.bank, ?_, getLsbD_rawWithBit (by omega), rfl, rfl, rfl, rfl,
    fun f o w hf => updateBank_mapped hf v s.now s.bank, fun f hf => updateBank_unmapped hf v s.now s.bank,
    fun f r hlow hhigh => p.decode_flag (f.isFlag_iff.mpr ⟨hlow, hhigh⟩) r⟩
  rw [← hframe]
  exact (exec_lastBit hr hwf hacc hlast).trans (congrArg _ (completeFrame_good hpass))

/-- Settles O44: the last bit completes the frame, and a frame that fails is dropped. -/
theorem lastBitDropsABadFrame : Obligations.LastBitDropsABadFrame := by
  intro s p d v ck hr hwf hacc hlast hv hrule hck
  obtain ⟨⟨-, hmax⟩, -⟩ := (wellFormedProfileIsRuleR111 p).mp hwf
  have hframe := frame_eq_of_lastBit hwf hlast hv
  have hfail : p.checksumPasses (p.frame (rawWithBit d s)) = false := by
    rw [hframe, Bool.eq_false_iff, ne_eq, p.checksumPasses_iff]
    exact fun hall => absurd (hall ck hrule) (by rw [hck]; decide)
  refine ⟨rawWithBit d s, getLsbD_rawWithBit (by omega), ?_⟩
  exact (exec_lastBit hr hwf hacc hlast).trans (congrArg _ (completeFrame_bad hfail))

end Machine
end Sys2Proof
end

section
/-! The host's transactions (`20_memory.md`): one runs its operation, the reads and what they leave, the writes that change nothing,
START and BTN_ENABLE, and transactions and clock edges under reset. -/

namespace Sys2Proof.Machine

/-! ### The step of a host transaction (R76, R330) -/

/-- With RST released a transaction of four bytes is its operation. -/
theorem stepTransaction_released {op : OpWord} {s : State} (hr : s.env.rst = false) :
    stepTransaction 4 op s = exec (decode op) s := by
  simp [stepTransaction, hr]

/-- Under reset a transaction that its operation would complete leaves the state. -/
theorem stepTransaction_discarded {op : OpWord} {s : State} (hr : s.env.rst = true) (h : ∃ t, exec (decode op) s = .next t) :
    stepTransaction 4 op s = .next s := by
  obtain ⟨t, ht⟩ := h
  rw [stepTransaction_under_reset hr, ht, thenNext]

/-- A clock edge with RST asserted resets. -/
theorem step_clock_reset {s : State} {x : Sample} {rest : List Input} (hr : s.env.rst = true)
    (hp : s.env.pending = .clock x :: rest) :
    step s = .next { State.reset with env := { s.env with pending := rest } } := by
  simp [step, fetch, hp, runInput, stepClock, hr, resetBlock]

/-- Settles O5. -/
theorem stepRunsHostTransaction : Obligations.StepRunsHostTransaction :=
  fun _ _ hr => ⟨fun _ hp => (step_write hp).trans (stepTransaction_released hr),
    fun _ hp => (step_read hp).trans (stepTransaction_released hr)⟩

/-- Settles O11: an aligned transaction's operation completes in every state, so under reset its effect is all that is lost. -/
theorem resetTakenAtClockEdge : Obligations.ResetTakenAtClockEdge := by
  refine fun s rest hr => ⟨fun x hp => step_clock_reset hr hp, fun off w ha hp => ?write, fun off ha hp => ?read⟩
  case write => exact (step_write hp).trans (stepTransaction_discarded hr (exec_aligned_write off w ha _))
  case read => exact (step_read hp).trans (stepTransaction_discarded hr (exec_aligned_read off ha _))

/-! ### Reads (R74, R75, R175) -/

/-- A choice between two operations that answer answers. -/
theorem answers_ite {c : Prop} [Decidable c] {i j : Instr} {s : State} {P : Word → Prop} (hi : ∃ v, P v ∧ Answers i s v)
    (hj : ∃ v, P v ∧ Answers j s v) : ∃ v, P v ∧ Answers (if c then i else j) s v := by
  split <;> assumption

/-- Every aligned read is answered, in `State.reset` by 0. -/
theorem answers_aligned_read {off : Offset} (ha : off.extractLsb' 0 2 = 0) (s : State) :
    ∃ v, (s = State.reset → v = 0) ∧ Answers (decode (.hostRead off)) s v := by
  obtain ⟨h0, h1⟩ := aligned_bits ha
  simp only [decode, decodeRead, h0, h1, Bool.false_eq_true, if_false]
  iterate 48 refine answers_ite ⟨_, by rintro rfl; decide, rfl⟩ ?_
  exact ⟨_, fun _ => rfl, rfl⟩

/-- Settles O30. -/
theorem readsHaveNoSideEffect : Obligations.ReadsHaveNoSideEffect := fun s _ ha =>
  (answers_aligned_read ha s).imp fun _ => And.right

/-- Settles O10. -/
theorem everyRegisterReadsZeroAfterReset : Obligations.EveryRegisterReadsZeroAfterReset := fun _ ha => by
  obtain ⟨v, hv, hans⟩ := answers_aligned_read ha State.reset
  rwa [hv rfl] at hans

theorem answers_snapFieldLo (f : FieldId) (s : State) : Answers (snapFieldLoInstr f) s (snapFieldLo f s) := by
  cases f <;> rfl

theorem answers_snapFieldHi (f : FieldId) (s : State) : Answers (snapFieldHiInstr f) s (snapFieldHi f s) := by
  cases f <;> rfl

theorem decodeRead_snapField : ∀ f ∈ FieldId.all,
    decodeRead (BitVec.ofNat 12 (0x080 + 8 * f.code)) = snapFieldLoInstr f
      ∧ decodeRead (BitVec.ofNat 12 (0x084 + 8 * f.code)) = snapFieldHiInstr f := by
  decide

/-- Settles O28. -/
theorem snapFieldReadsAreHalves : Obligations.SnapFieldReadsAreHalves := fun s f =>
  ⟨snapFieldLo f s, snapFieldHi f s, answers_snapFieldLo f s, answers_snapFieldHi f s, hiWord_append_loWord _,
    decodeRead_snapField f f.mem_all⟩

/-! ### The STATUS word (R61) -/

theorem RunState.isRunning_iff (r : RunState) : r.isRunning = true ↔ ∃ p, r = .running p := by
  cases r <;> simp [RunState.isRunning]

theorem RunState.isConfigError_iff (r : RunState) : r.isConfigError = true ↔ r = .configError := by
  cases r <;> simp [RunState.isConfigError]

theorem serBusy_iff (s : State) : serBusy s = true ↔ s.ser.state ≠ .idle := by
  rw [serBusy, bne_iff_ne]

/-- The six flags in bits 5 to 0. -/
theorem statusWord_flags (s : State) :
    (statusWord s).getLsbD 0 = s.run.isRunning ∧ (statusWord s).getLsbD 1 = s.run.isConfigError
      ∧ (statusWord s).getLsbD 2 = serBusy s ∧ (statusWord s).getLsbD 3 = s.smp.busIdle
      ∧ (statusWord s).getLsbD 4 = s.badCmd ∧ (statusWord s).getLsbD 5 = s.rePending := by
  rw [statusWord]
  refine ⟨?_, ?_, ?_, ?_, ?_, ?_⟩
  all_goals repeat rw [BitVec.getLsbD_append, if_pos (by decide)]
  · simp
  all_goals rw [BitVec.getLsbD_append, if_neg (by decide)]; simp

/-- DEC_STATE in bits [9:8], and zeros around it. -/
theorem statusWord_fields (s : State) :
    (statusWord s).extractLsb' 6 2 = 0 ∧ (statusWord s).extractLsb' 8 2 = s.dec.state.code
      ∧ (statusWord s).extractLsb' 10 22 = 0 := by
  refine ⟨?_, ?_, BitVec.extractLsb'_append_eq_left⟩
  · rw [statusWord, BitVec.extractLsb'_append_eq_of_add_le (by decide), BitVec.extractLsb'_append_eq_of_add_le (by decide),
      BitVec.extractLsb'_append_eq_left]
    rfl
  · rw [statusWord, BitVec.extractLsb'_append_eq_of_add_le (by decide), BitVec.extractLsb'_append_eq_left]

/-- Settles O23. -/
theorem statusReadGivesLiveBits : Obligations.StatusReadGivesLiveBits := by
  intro s
  obtain ⟨hrun, herr, hbusy, hidle, hbad, hre⟩ := statusWord_flags s
  obtain ⟨hlow, hdec, hhigh⟩ := statusWord_fields s
  refine ⟨rfl, statusWord s, rfl, ?_, ?_, ?_, hidle, hbad, hre, hlow, hdec.trans ?_, hhigh⟩
  · rw [hrun, RunState.isRunning_iff]
  · rw [herr, RunState.isConfigError_iff]
  · rw [hbusy, serBusy_iff]
  · cases s.dec.state <;> rfl

/-! ### Ignored writes (R74) -/

theorem exec_readOnlyWriteRows {w : Word} {i : Instr} (hi : i ∈ readOnlyWriteRows w) (s : State) : exec i s = .next s := by
  simp only [readOnlyWriteRows, List.mem_cons, List.not_mem_nil, or_false] at hi
  repeat' (obtain rfl | hi := hi; · rfl)

theorem exec_reservedWriteRows {off : Offset} {w : Word} {i : Instr} (hi : i ∈ reservedWriteRows off w) (s : State) :
    exec i s = .next s := by
  simp only [reservedWriteRows, List.mem_cons, List.not_mem_nil, or_false] at hi
  obtain rfl | rfl | rfl | rfl | rfl | rfl | rfl | rfl | rfl | rfl := hi <;> rfl

/-- The operation is a row of writes that change nothing. -/
abbrev IgnoredWrite (off : Offset) (w : Word) (i : Instr) : Prop := i ∈ readOnlyWriteRows w ∨ i ∈ reservedWriteRows off w

/-- From 0x030 on the decoder's test for an offset below fails. -/
theorem ignoredWrite_ite_low {off lit : Offset} {w : Word} {i j : Instr} (hoff : 0x030 ≤ off.toNat) (hlit : lit.toNat < 0x030)
    (hj : IgnoredWrite off w j) : IgnoredWrite off w (if off = lit then i else j) := by
  rwa [if_neg (by rintro rfl; omega)]

theorem ignoredWrite_ite {off : Offset} {w : Word} {c : Prop} [Decidable c] {i j : Instr} (hi : IgnoredWrite off w i)
    (hj : IgnoredWrite off w j) : IgnoredWrite off w (if c then i else j) := by
  split <;> assumption

theorem ignoredWrite_decodeWrite {off : Offset} (w : Word) (ha : off.extractLsb' 0 2 = 0) (hoff : 0x030 ≤ off.toNat) :
    IgnoredWrite off w (decodeWrite off w) := by
  obtain ⟨h0, h1⟩ := aligned_bits ha
  simp only [decodeWrite, h0, h1, Bool.false_eq_true, if_false]
  iterate 12 refine ignoredWrite_ite_low hoff (by decide) ?_
  iterate 27 refine ignoredWrite_ite (.inl (by simp [readOnlyWriteRows])) ?_
  iterate 9 refine ignoredWrite_ite (.inr (by simp [reservedWriteRows])) ?_
  exact .inr (by simp [reservedWriteRows])

/-- Settles O20. -/
theorem ignoredWritesChangeNothing : Obligations.IgnoredWritesChangeNothing :=
  ⟨fun s _ _ hi => exec_readOnlyWriteRows hi s, fun s _ _ _ hi => exec_reservedWriteRows hi s,
    fun off w ha hoff => decode_hostWrite_append off w ▸ ignoredWrite_decodeWrite w ha hoff⟩

/-! ### START and BTN_ENABLE (R282, R286) -/

theorem lookupProfile_reserved (m : BitVec 8) : lookupProfile 3 m = none := rfl

theorem startProfile_eq (t : BitVec 2) (m : BitVec 8) :
    startProfile t m = (lookupProfile t m).bind fun p => if p.wf then some p else none := by
  unfold startProfile
  cases lookupProfile t m <;> rfl

/-- START in Config changes RUN_STATE alone: Running with an accepted profile, ConfigError without one. -/
theorem start_config {s : State} (h : s.run = .config) :
    start s =
      { s with run := match startProfile s.cfg.topology s.cfg.model with | some p => .running p | none => .configError } := by
  simp only [start, h]
  cases startProfile s.cfg.topology s.cfg.model <;> rfl

/-- Settles O14: START's profile is the table's where it is well-formed. -/
theorem startLatchesOrFails : Obligations.StartLatchesOrFails := by
  refine ⟨fun s w hbit hconfig => ?_, lookupProfile_reserved⟩
  rw [exec_wrCtrlStart, ctrlWrite_start hbit, start_config hconfig, startProfile_eq]
  cases lookupProfile s.cfg.topology s.cfg.model with
  | none => rfl
  | some p => cases h : p.wf <;> simp [h]

/-- Settles O17. -/
theorem btnEnableWriteStoresTenBits : Obligations.BtnEnableWriteStoresTenBits := fun _ w =>
  ⟨(decode_hostWrite_append _ w).trans rfl, wordMask w, rfl, getLsbD_wordMask w⟩

end Sys2Proof.Machine
end

section
/-! The command injector (`43_command_injector.md`): the command rows, and the four phases of the injector in a tick. -/

namespace Sys2Proof.Machine

/-! ### The command rows (R192 to R195, R305) -/

/-- Settles O32: each row is its enqueue or release, and acceptance decides the enqueue. -/
theorem pressHoldReleaseEffects : Obligations.PressHoldReleaseEffects := by
  refine fun s b => ⟨exec_releaseInstr b s, fun hcannot => ?refused, fun p hcan => ?accepted⟩
  case refused =>
    have h := acceptsCommand_of_cannotCommand hcannot
    rw [exec_pressInstr, exec_holdInstr, enqueue_refused h, enqueue_refused h]
    exact ⟨rfl, rfl⟩
  case accepted =>
    have h := acceptsCommand_of_canCommand hcan
    rw [exec_pressInstr, exec_holdInstr, enqueue_accepted h, enqueue_accepted h]
    exact ⟨rfl, rfl⟩

/-- Settles O33. -/
theorem illegalCommandSetsBadCmd : Obligations.IllegalCommandSetsBadCmd := by
  intro s button action low1 low2 w i hi
  simp only [illegalCommandRows, List.mem_cons, List.not_mem_nil, or_false] at hi
  repeat' (obtain rfl | hi := hi; · rfl)

/-! ### Phase 3a, the gate (R196) -/

/-- Settles O35: BTN_ENABLE[b] decides, slot by slot. -/
theorem gateDropsDisabledCommands : Obligations.GateDropsDisabledCommands := by
  refine fun s => ⟨rfl, fun b => ⟨fun (hon : maskBit s.btnEnable b = true) => ?on,
    fun (hoff : maskBit s.btnEnable b = false) => ?off⟩⟩
  case on =>
    refine ⟨by rw [gate_slot, if_pos hon], (gate_failed s b).trans ?_⟩
    rw [hon, Bool.not_true, Bool.false_and, Bool.or_false, maskBit]
  case off =>
    refine ⟨by rw [gate_slot, if_neg (Bool.eq_false_iff.mp hoff)], ?_⟩
    change maskBit (gate s).failed b = true ↔ maskBit s.failed b = true ∨ _
    rw [gate_failed, hoff, Bool.not_false, Bool.true_and, Bool.or_eq_true, SlotState.isPending_iff]

/-! ### Phase 3b, hold expiry (R197) -/

theorem holdExpired_iff (p : Profile) (t : Word64) (k : Slot) :
    holdExpired p t k = true ↔ k.state = .holding ∧ p.maxHold ≤ (t - k.holdStart).toNat := by
  rw [holdExpired, Bool.and_eq_true, beq_iff_eq, decide_eq_true_eq]

/-- Settles O36. -/
theorem holdExpiresAtItsMaximum : Obligations.HoldExpiresAtItsMaximum := by
  intro p s
  refine ⟨rfl, fun b => ?_⟩
  rw [← holdExpired_iff, expire_slot]
  exact ⟨fun h => if_pos h, fun h => if_neg h⟩

/-! ### Phase 3c, the drain (R198, R199) -/

theorem eligible_iff (k : Slot) : eligible k = true ↔
    k.state = .pendingPress ∨ k.state = .pendingHold ∨ (k.state = .holding ∧ k.emitted = false) := by
  cases h : k.state <;> simp [eligible, h]

theorem idleWin_iff (s : State) : idleWin s = true ↔ s.sig.idleLine = true ∧ s.ser.state = .idle := by
  rw [idleWin, Bool.and_eq_true, beq_iff_eq]

theorem injectionSlot_eq_none {s : State} (h : idleWin s = true → ∀ b, ¬eligible (s.slots.get b) = true) :
    injectionSlot s = none := by
  unfold injectionSlot
  split
  next hwin => exact List.find?_eq_none.mpr fun b _ => h hwin b
  · rfl

/-- A grant with its code starts the transmission, moves the slot on, and delivers the command (R198, R199, R231). -/
theorem drain_grant {p : Profile} {s : State} {b : ButtonId} {code : List Bool} (h : injectionSlot s = some b)
    (hcode : p.buttonCode.get b = some code) :
    drain p s =
      { s with
        slots := s.slots.set b (drainedSlot s.now (s.slots.get b))
        delivered := if (s.slots.get b).state.isPending then s.delivered ||| BitVec.twoPow 10 b.code else s.delivered
        ser :=
          { state := .lead, timer := BitVec.ofNat 32 p.tLead, idx := 0, len := BitVec.ofNat 9 code.length,
            buf := firstBits (frameOfList code) code.length, src := .cmd }
        sig := { s.sig with serNew := true, cmdStarted := true } } := by
  rw [drain_some h, hcode, ← buttonMask_one]
  rfl

/-- Settles O37: with a grant `drain_some` starts the code's transmission and moves the slot on. -/
theorem drainServesTheLeastEligible : Obligations.DrainServesTheLeastEligible := by
  intro p s el
  have hel : ∀ b, eligible (s.slots.get b) = true ↔ el b := fun b => eligible_iff _
  refine ⟨fun hno => ?none, fun b code hline hidle hb hleast hcode hlen => ?some⟩
  case none =>
    have hgrant : injectionSlot s = none := injectionSlot_eq_none fun hwin b hb => by
      obtain ⟨hline, hidle⟩ := (idleWin_iff s).mp hwin
      obtain h | h | h := hno
      · rw [hline] at h; cases h
      · exact h hidle
      · exact h b ((hel b).mp hb)
    exact ⟨hgrant, drain_none hgrant⟩
  case some =>
    have helig := (hel b).mpr hb
    have hgrant : injectionSlot s = some b :=
      injectionSlot_eq ((idleWin_iff s).mpr ⟨hline, hidle⟩) helig fun c hc => hleast c ((hel c).mp hc)
    refine ⟨hgrant, firstBits (frameOfList code) code.length, fun i => getLsbD_codeBits code i (by omega), ?_⟩
    rw [drain_grant hgrant hcode]
    cases hk : (s.slots.get b).state with
    | pendingPress | pendingHold | holding => simp [drainedSlot, hk, SlotState.isPending]
    | empty => simp [eligible, hk] at helig

/-! ### Phase 3d, the delivery timeout (R200) -/

theorem deliveryExpired_iff (p : Profile) (t : Word64) (k : Slot) : deliveryExpired p t k = true ↔
    (k.state = .pendingPress ∨ k.state = .pendingHold) ∧ p.deliveryTimeout - 1 ≤ (t - k.enqTime).toNat := by
  rw [deliveryExpired, Bool.and_eq_true, SlotState.isPending_iff, decide_eq_true_eq]

/-- Settles O38. -/
theorem deliveryTimesOut : Obligations.DeliveryTimesOut := by
  refine fun p chosen s => ⟨rfl, fun b => ?_⟩
  intro late
  have hlate : (chosen != some b && deliveryExpired p s.now (s.slots.get b)) = true ↔ late := by
    rw [Bool.and_eq_true, bne_iff_ne, deliveryExpired_iff]
  rw [timeout_slot]
  change (late → _ ∧ maskBit (timeout p chosen s).failed b = true)
    ∧ (¬late → _ ∧ maskBit (timeout p chosen s).failed b = maskBit s.failed b)
  rw [timeout_failed]
  refine ⟨fun h => ⟨if_pos (hlate.mpr h), ?_⟩, fun h => ?_⟩
  · rw [hlate.mpr h, Bool.or_true]
  · have hnot := mt hlate.mp h
    rw [Bool.eq_false_iff.mpr hnot, Bool.or_false]
    exact ⟨if_neg Bool.false_ne_true, rfl⟩

end Sys2Proof.Machine
end

section
/-! The schedule of a transmission (R237): the timer of each state counts down to the state's transition, and the states follow one
another from Lead to Idle. -/

namespace Sys2Proof.Machine

/-! ### One state of the serializer (R232, R233) -/

/-- Until the time of a state runs out only the timer changes. -/
theorem serAdvance_countdown (p : Profile) {r : Serializer} {n j : Nat} (hb : r.state ≠ .idle) (ht : r.timer = BitVec.ofNat 32 n)
    (hn : n ≤ 2 ^ 32 - 1) (hj : j < n) : (serAdvance p)^[j] r = { r with timer := BitVec.ofNat 32 (n - j) } := by
  induction j with
  | zero => rw [Function.iterate_zero_apply, Nat.sub_zero, ← ht]
  | succ j ih =>
    have hne : BitVec.ofNat 32 (n - j) ≠ 1 := by
      intro h
      have := congrArg BitVec.toNat h
      rw [BitVec.toNat_ofNat, Nat.mod_eq_of_lt (by omega)] at this
      change n - j = 1 at this
      omega
    have hsub : BitVec.ofNat 32 (n - j) - 1 = BitVec.ofNat 32 (n - (j + 1)) := by
      rw [show n - j = n - (j + 1) + 1 by omega, BitVec.ofNat_add]
      exact BitVec.add_sub_cancel _ _
    rw [Function.iterate_succ_apply', ih (by omega), ← hsub]
    exact (serAdvance_busy (r := { r with timer := BitVec.ofNat 32 (n - j) }) hb).trans (if_neg hne)

/-- When the time of a state has run out its transition is taken. -/
theorem serAdvance_runOut (p : Profile) {r : Serializer} {n : Nat} (hb : r.state ≠ .idle) (ht : r.timer = BitVec.ofNat 32 n)
    (h1 : 1 ≤ n) (hn : n ≤ 2 ^ 32 - 1) : (serAdvance p)^[n] r = serTransition p { r with timer := 0 } := by
  obtain ⟨m, rfl⟩ := Nat.exists_eq_add_of_le' h1
  rw [Function.iterate_succ_apply', serAdvance_countdown p hb ht hn (Nat.lt_succ_self m), Nat.add_sub_cancel_left]
  exact (serAdvance_busy (r := { r with timer := 1 }) hb).trans (if_pos rfl)

/-- Second goes on to the First of the next bit (R233). -/
theorem serTransition_nextBit {p : Profile} {q : Serializer} (hs : q.state = .second) (h : q.idx.toNat + 1 < q.len.toNat) :
    serTransition p q = { q with idx := q.idx + 1, state := .first, timer := BitVec.ofNat 32 p.tHalf } := by
  simp only [serTransition, hs, if_pos h]

/-- Second goes on to Lag after the last bit (R233). -/
theorem serTransition_lastBit {p : Profile} {q : Serializer} (hs : q.state = .second) (h : ¬q.idx.toNat + 1 < q.len.toNat) :
    serTransition p q = { q with state := .lag, timer := BitVec.ofNat 32 p.tLag } := by
  simp only [serTransition, hs, if_neg h]

theorem serAdvance_iterate_buf (p : Profile) (r : Serializer) (k : Nat) :
    ((serAdvance p)^[k] r).buf = r.buf ∧ ((serAdvance p)^[k] r).len = r.len := by
  induction k with
  | zero => exact ⟨rfl, rfl⟩
  | succ k ih =>
    rw [Function.iterate_succ_apply']
    obtain ⟨hbuf, hlen⟩ := serAdvance_buf p ((serAdvance p)^[k] r)
    exact ⟨hbuf.trans ih.1, hlen.trans ih.2⟩

/-! ### The states of a transmission in their order (R237) -/

section Schedule

variable {p : Profile} {r : Serializer}

/-- The transmission as it enters the state `st` of bit `i` with the time `n`. -/
def entering (r : Serializer) (st : SerState) (i n : Nat) : Serializer :=
  { r with state := st, timer := BitVec.ofNat 32 n, idx := BitVec.ofNat 9 i }

/-- `k` ticks after the start, where the state entered `a` ticks after it still has time. -/
theorem iterate_within {st : SerState} {i n a k : Nat} (hst : st ≠ .idle) (hn : n ≤ 2 ^ 32 - 1)
    (ha : (serAdvance p)^[a] r = entering r st i n) (hak : a ≤ k) (hk : k < a + n) :
    (serAdvance p)^[k] r = entering r st i (n - (k - a)) := by
  obtain ⟨j, rfl⟩ := Nat.exists_eq_add_of_le' hak
  rw [Function.iterate_add_apply, ha, serAdvance_countdown p hst rfl hn (by omega), Nat.add_sub_cancel]
  rfl

/-- The transition out of the state entered `a` ticks after the start. -/
theorem iterate_runOut {st : SerState} {i n a : Nat} (hst : st ≠ .idle) (h1 : 1 ≤ n) (hn : n ≤ 2 ^ 32 - 1)
    (ha : (serAdvance p)^[a] r = entering r st i n) :
    (serAdvance p)^[a + n] r = serTransition p { entering r st i n with timer := 0 } := by
  rw [Nat.add_comm, Function.iterate_add_apply, ha, serAdvance_runOut p hst rfl h1 hn]

theorem toNat_ofNat_idx {i n : Nat} (hi : i < n) (hn : n ≤ 256) : (BitVec.ofNat 9 i).toNat = i := by
  rw [BitVec.toNat_ofNat, Nat.mod_eq_of_lt (by omega)]

variable (hwf : p.wf = true) (hstate : r.state = .lead) (htimer : r.timer = BitVec.ofNat 32 p.tLead) (hidx : r.idx = 0)
  (hlen : r.len.toNat ≤ 256)

include hwf in
/-- The times of R111 that the serializer uses. -/
theorem serializer_times : (1 ≤ p.tLead ∧ p.tLead ≤ 2 ^ 32 - 1) ∧ (1 ≤ p.tHalf ∧ p.tHalf ≤ 2 ^ 32 - 1)
    ∧ (1 ≤ p.tLag ∧ p.tLag ≤ 2 ^ 32 - 1) := by
  obtain ⟨-, -, -, -, hticks⟩ := (wellFormedProfileIsRuleR111 p).mp hwf
  exact ⟨hticks _ (by simp), hticks _ (by simp), hticks _ (by simp)⟩

include hstate htimer hidx in
theorem start_eq_entering_lead : (serAdvance p)^[0] r = entering r .lead 0 p.tLead := by
  rw [Function.iterate_zero_apply, entering, ← htimer, ← hstate]
  change r = { r with idx := 0 }
  rw [← hidx]

include hwf in
/-- First is followed by Second. -/
theorem second_of_first {i a : Nat} (ha : (serAdvance p)^[a] r = entering r .first i p.tHalf) :
    (serAdvance p)^[a + p.tHalf] r = entering r .second i p.tHalf := by
  obtain ⟨-, ⟨h1, hmax⟩, -⟩ := serializer_times hwf
  exact (iterate_runOut SerState.noConfusion h1 hmax ha).trans rfl

include hwf hlen in
/-- Second is followed by the First of the next bit, short of the last bit. -/
theorem first_of_second {i a : Nat} (hi : i + 1 < r.len.toNat) (ha : (serAdvance p)^[a] r = entering r .second i p.tHalf) :
    (serAdvance p)^[a + p.tHalf] r = entering r .first (i + 1) p.tHalf := by
  obtain ⟨-, ⟨h1, hmax⟩, -⟩ := serializer_times hwf
  have hcond : (BitVec.ofNat 9 i).toNat + 1 < r.len.toNat := by rwa [toNat_ofNat_idx (by omega) hlen]
  rw [iterate_runOut SerState.noConfusion h1 hmax ha, serTransition_nextBit rfl hcond]
  simp [entering, BitVec.ofNat_add]

include hwf hlen in
/-- The Second of the last bit is followed by Lag. -/
theorem lag_of_second {i a : Nat} (hi : i + 1 = r.len.toNat) (ha : (serAdvance p)^[a] r = entering r .second i p.tHalf) :
    (serAdvance p)^[a + p.tHalf] r = entering r .lag i p.tLag := by
  obtain ⟨-, ⟨h1, hmax⟩, -⟩ := serializer_times hwf
  have hcond : ¬(BitVec.ofNat 9 i).toNat + 1 < r.len.toNat := by
    rw [toNat_ofNat_idx (Nat.lt_of_succ_le hi.le) hlen]
    omega
  rw [iterate_runOut SerState.noConfusion h1 hmax ha, serTransition_lastBit rfl hcond]
  rfl

include hwf hstate htimer hidx hlen in
/-- Bit `i` is entered `t_lead + 2 t_half i` ticks after the start. -/
theorem iterate_first {i : Nat} (hi : i < r.len.toNat) :
    (serAdvance p)^[p.tLead + 2 * p.tHalf * i] r = entering r .first i p.tHalf := by
  obtain ⟨⟨h1, hmax⟩, -⟩ := serializer_times hwf
  induction i with
  | zero =>
    have := iterate_runOut SerState.noConfusion h1 hmax (start_eq_entering_lead (p := p) hstate htimer hidx)
    rw [Nat.zero_add] at this
    exact this.trans rfl
  | succ i ih =>
    have hsecond := second_of_first hwf (ih (by omega))
    have hfirst := first_of_second hwf hlen hi hsecond
    rwa [show p.tLead + 2 * p.tHalf * (i + 1) = p.tLead + 2 * p.tHalf * i + p.tHalf + p.tHalf by ring]

include hwf hstate htimer hidx hlen in
theorem iterate_second {i : Nat} (hi : i < r.len.toNat) :
    (serAdvance p)^[p.tLead + 2 * p.tHalf * i + p.tHalf] r = entering r .second i p.tHalf :=
  second_of_first hwf (iterate_first hwf hstate htimer hidx hlen hi)

include hwf hstate htimer hidx hlen in
theorem iterate_lag {i : Nat} (hi : i + 1 = r.len.toNat) :
    (serAdvance p)^[p.tLead + 2 * p.tHalf * r.len.toNat] r = entering r .lag i p.tLag := by
  have hlag := lag_of_second hwf hlen hi (iterate_second hwf hstate htimer hidx hlen (by omega))
  rwa [← hi, show p.tLead + 2 * p.tHalf * (i + 1) = p.tLead + 2 * p.tHalf * i + p.tHalf + p.tHalf by ring]

include hwf hstate htimer hidx hlen in
theorem iterate_done {i k : Nat} (hi : i + 1 = r.len.toNat) (hk : p.tLead + 2 * p.tHalf * r.len.toNat + p.tLag ≤ k) :
    (serAdvance p)^[k] r = { entering r .idle i 0 with src := .none } := by
  obtain ⟨-, -, ⟨h1, hmax⟩⟩ := serializer_times hwf
  have hidle := iterate_runOut SerState.noConfusion h1 hmax (iterate_lag hwf hstate htimer hidx hlen hi)
  obtain ⟨j, rfl⟩ := Nat.exists_eq_add_of_le' hk
  rw [Function.iterate_add_apply, hidle]
  exact Function.iterate_fixed (serAdvance_idle rfl) j

end Schedule

/-- Settles O48: each interval of the schedule lies within the state that the serializer entered at its start. -/
theorem transmissionRunsToSchedule : Obligations.TransmissionRunsToSchedule := by
  intro p r hwf hstate htimer hidx hlen1 hlen k u h n
  obtain ⟨hbuf, hlen'⟩ := serAdvance_iterate_buf p r k
  obtain ⟨⟨-, hlead⟩, ⟨-, hhalf⟩, ⟨-, hlag⟩⟩ := serializer_times hwf
  obtain ⟨m, hm⟩ : ∃ m, m + 1 = r.len.toNat := ⟨r.len.toNat - 1, by omega⟩
  refine ⟨hbuf, hlen', fun hk => ?lead, fun i hi hlow hhigh => ?first, fun i hi hlow hhigh => ?second, fun hlow hhigh => ?lag,
    fun hk => ?done⟩
  case lead =>
    have hu : u = _ := iterate_within SerState.noConfusion hlead (start_eq_entering_lead hstate htimer hidx) (Nat.zero_le k)
      (by omega)
    rw [hu]; exact ⟨rfl, rfl⟩
  case first =>
    have hu : u = _ := iterate_within SerState.noConfusion hhalf (iterate_first hwf hstate htimer hidx hlen hi) hlow hhigh
    rw [hu]; exact ⟨rfl, toNat_ofNat_idx hi hlen, rfl⟩
  case second =>
    have hu : u = _ := iterate_within SerState.noConfusion hhalf (iterate_second hwf hstate htimer hidx hlen hi) hlow
      (by rw [Nat.add_assoc, ← Nat.two_mul]; exact hhigh)
    rw [hu]; exact ⟨rfl, toNat_ofNat_idx hi hlen, rfl⟩
  case lag =>
    have hu : u = _ := iterate_within SerState.noConfusion hlag (iterate_lag hwf hstate htimer hidx hlen hm) hlow hhigh
    rw [hu]; exact ⟨rfl, rfl⟩
  case done =>
    have hu : u = _ := iterate_done hwf hstate htimer hidx hlen hm hk
    rw [hu]; exact ⟨rfl, rfl⟩

end Sys2Proof.Machine
end

section
/-! A Running tick as a whole (`45_bus_mux_arbitration.md`): when it forms an event, what it leaves, the sampler's state and the
outputs after it, and the slots through its phases. -/

namespace Sys2Proof.Machine

/-! ### The tick -/

/-- The state in which a Running tick ends whose event moves the decoder by `f`. -/
def tickWith (f : Profile → State → State) (p : Profile) (x : Sample) (s : State) : State :=
  tickTail p x (f p (tickHead p x s))

/-- The state from which the input at the head of the list has been taken. -/
abbrev takeInput (rest : List Input) (s : State) : State := { s with env := { s.env with pending := rest } }

/-- A due tick completes; without an event the decoder does not move. -/
theorem step_tickDue {s : State} {p : Profile} {x : Sample} {rest : List Input} (h : TickDue p x rest s) :
    ∃ f, DecoderMove f ∧ ((tickHead p x (takeInput rest s)).sig.event = none → f = onNoChange)
      ∧ step s = .next (tickWith f p x (takeInput rest s)) := by
  obtain ⟨hrun, hrst, hpend, hset⟩ := h
  obtain ⟨f, hf, hnone, hstep⟩ := stepTick_running (x := x) (s := takeInput rest s) hrun hset
  exact ⟨f, hf, hnone, (step_clock hrst hpend).trans hstep⟩

/-- What a tick leaves. -/
theorem tickWith_frame {f : Profile → State → State} (hf : DecoderMove f) (p : Profile) (x : Sample) (s : State) :
    (tickWith f p x s).run = s.run ∧ (tickWith f p x s).cfg = s.cfg ∧ (tickWith f p x s).btnEnable = s.btnEnable ∧
    (tickWith f p x s).snap = s.snap ∧ (tickWith f p x s).badCmd = s.badCmd ∧ (tickWith f p x s).port = s.port ∧
    (tickWith f p x s).env = s.env := by
  simp [tickWith, hf.fields]

/-- The decoder and the live bank after a tick are those of the decoder's move. -/
theorem tickWith_decoder (f : Profile → State → State) (p : Profile) (x : Sample) (s : State) :
    (tickWith f p x s).dec = (f p (tickHead p x s)).dec ∧ (tickWith f p x s).bank = (f p (tickHead p x s)).bank := by
  simp [tickWith]

/-- NOW after a tick (R251). -/
theorem tickWith_now {f : Profile → State → State} (hf : DecoderMove f) (p : Profile) (x : Sample) (s : State) :
    (tickWith f p x s).now = s.now + 1 := by
  simp [tickWith, hf.fields]

/-- A move of the decoder leaves the signals of the sampler. -/
theorem DecoderMove.sig {f : Profile → State → State} (hf : DecoderMove f) (p : Profile) (s : State) :
    (f p s).sig.masked = s.sig.masked ∧ (f p s).sig.activity = s.sig.activity ∧ (f p s).sig.serNew = s.sig.serNew := by
  have e := hf.frame p s
  generalize f p s = u at e
  rw [e]
  exact ⟨rfl, rfl, rfl⟩

/-! ### The event of a tick (R121, R122, R125, R268) -/

theorem masked_iff (s : State) : (isFourWire s && s.out.dspOe) = true ↔ s.cfg.topology = 0 ∧ s.out.dspOe = true := by
  rw [Bool.and_eq_true, isFourWire_iff]

theorem tickHead_masked (p : Profile) (x : Sample) (s : State) :
    (tickHead p x s).sig.masked = true ↔ s.cfg.topology = 0 ∧ s.out.dspOe = true := by
  rw [← masked_iff]
  cases hm : isFourWire s && s.out.dspOe with
  | true => rw [tickHead_of_masked p x hm]
  | false =>
    cases hv : s.smp.prevValid with
    | false => rw [tickHead_of_history p x hm hv]; rfl
    | true =>
      cases ha : lineChanged s.smp.prev x with
      | true => rw [tickHead_of_activity p x hm hv ha]; rfl
      | false => rw [tickHead_of_quiet p x hm hv ha]; rfl

theorem tickHead_event_none {p : Profile} {x : Sample} {s : State}
    (h : (s.cfg.topology = 0 ∧ s.out.dspOe = true) ∨ s.smp.prevValid = false) : (tickHead p x s).sig.event = none := by
  cases hm : isFourWire s && s.out.dspOe with
  | true => rw [tickHead_of_masked p x hm]; rfl
  | false =>
    have hv := h.resolve_left fun hmask => by rw [(masked_iff s).mpr hmask] at hm; cases hm
    rw [tickHead_of_history p x hm hv]; rfl

theorem tickHead_event_some {p : Profile} {x : Sample} {s : State} (hm : ¬(s.cfg.topology = 0 ∧ s.out.dspOe = true))
    (hv : s.smp.prevValid = true) : (tickHead p x s).sig.event = some (eventWord p s.smp.prev x) := by
  rw [← masked_iff, Bool.not_eq_true] at hm
  cases ha : lineChanged s.smp.prev x with
  | true => rw [tickHead_of_activity p x hm hv ha]
  | false => rw [tickHead_of_quiet p x hm hv ha]

theorem stepTick_event {p : Profile} {x : Sample} {s : State} {e : BitVec 5} (hr : s.run = .running p)
    (hs : s.dec.state.settled = true) (he : (tickHead p x s).sig.event = some e) :
    stepTick x s = thenNext (exec (decode (.busEvent e)) (tickHead p x s)) (tickTail p x) := by
  simp only [stepTick, hr, hs, he, if_true]

theorem stepTick_no_event {p : Profile} {x : Sample} {s : State} (hr : s.run = .running p) (hs : s.dec.state.settled = true)
    (he : (tickHead p x s).sig.event = none) : stepTick x s = .next (tickTail p x (tickHead p x s)) := by
  simp only [stepTick, hr, hs, he, if_true]

/-- IDLE_LINE (R255). -/
theorem detectIdle_idleLine (p : Profile) (x : Sample) (u : State) : (detectIdle p x u).sig.idleLine = true ↔
    u.sig.masked = false ∧ x.cs ≠ p.csActiveLevel ∧ p.idleGap ≤ u.smp.quietCnt.toNat := by
  simp [detectIdle, Profile.asserted, and_assoc]

/-- Settles O6: `tickTail` is the later phases in the order of R250. -/
theorem stepRunsBusEvent : Obligations.StepRunsBusEvent := by
  intro s p x rest hdue masked s1 later
  obtain ⟨hrun, hrst, hpend, hset⟩ := hdue
  obtain ⟨hrun', -, -, hdec, hbank, hnow, -⟩ := tickHead_frame p x (takeInput rest s)
  have hclock := step_clock hrst hpend
  refine ⟨fun hm hv => ?event, fun h => ?noEvent, hdec, hrun', hnow, hbank, tickHead_masked p x _, fun u => ?phases⟩
  case event => exact hclock.trans (stepTick_event hrun hset (tickHead_event_some hm hv))
  case noEvent => exact hclock.trans (stepTick_no_event hrun hset (tickHead_event_none h))
  case phases =>
    refine ⟨detectIdle_idleLine p x u, fun hnew => ?_, fun hold => ?_⟩
    · exact if_pos hnew
    · exact if_neg (Bool.eq_false_iff.mp hold)

/-- Settles O8: the tick completes with the decoder's move, and without an event the decoder does not move. -/
theorem runningTickCompletes : Obligations.RunningTickCompletes := by
  intro s p x rest hdue
  obtain ⟨f, hf, hnone, hstep⟩ := step_tickDue hdue
  obtain ⟨hrunning, -, -, hsettled⟩ := hdue
  obtain ⟨hrun, hcfg, hbtn, hsnap, hbad, hport, henv⟩ := tickWith_frame hf p x (takeInput rest s)
  obtain ⟨hdec, hbank⟩ := tickWith_decoder f p x (takeInput rest s)
  have hset : (tickWith f p x (takeInput rest s)).dec.state.settled = true := by
    rw [hdec]
    exact hf.settled p (by simpa using hsettled)
  refine ⟨_, hstep, hrun.trans hrunning, hset, rfl, henv, hcfg, hbtn, hbad, hsnap, hport, fun hno => ?_⟩
  rw [hdec, hbank, hnone (tickHead_event_none hno)]
  simp [onNoChange]

/-! ### The sampler's state after a tick (R121, R122, R126 to R128, R255) -/

theorem tickWith_smp {f : Profile → State → State} (hf : DecoderMove f) (p : Profile) (x : Sample) (s : State) :
    (tickWith f p x s).smp =
      { (tickHead p x s).smp with
        busIdle := !(tickHead p x s).sig.masked && !p.asserted x.cs
          && decide (p.idleGap ≤ (tickHead p x s).smp.quietCnt.toNat) } := by
  rw [tickWith, tickTail_smp, (hf.sig p _).1]
  simp only [hf.fields]

theorem tickHead_smp_masked {p : Profile} {x : Sample} {s : State} (hm : s.cfg.topology = 0 ∧ s.out.dspOe = true) :
    (tickHead p x s).smp = { s.smp with prevValid := false, quietCnt := satInc32 s.smp.quietCnt } := by
  rw [tickHead_of_masked p x ((masked_iff s).mpr hm)]

section Unmasked

variable {p : Profile} {x : Sample} {s : State} (hm : ¬(s.cfg.topology = 0 ∧ s.out.dspOe = true))

include hm

theorem tickHead_smp_active (hv : s.smp.prevValid = true) (hne : s.smp.prev ≠ x) :
    (tickHead p x s).smp = { s.smp with prev := x, quietCnt := 0 } := by
  rw [← masked_iff, Bool.not_eq_true] at hm
  rw [tickHead_of_activity p x hm hv ((lineChanged_iff _ _).mpr hne)]

theorem tickHead_smp_quiet (h : s.smp.prevValid = false ∨ s.smp.prev = x) :
    (tickHead p x s).smp = { s.smp with prevValid := true, prev := x, quietCnt := satInc32 s.smp.quietCnt } := by
  rw [← masked_iff, Bool.not_eq_true] at hm
  cases hv : s.smp.prevValid with
  | false => rw [tickHead_of_history p x hm hv]
  | true =>
    have heq : s.smp.prev = x := h.resolve_left (by rw [hv]; exact Bool.noConfusion)
    rw [tickHead_of_quiet p x hm hv (Bool.eq_false_iff.mpr fun hc => (lineChanged_iff _ _).mp hc heq), ← hv]

theorem tickHead_smp_history : (tickHead p x s).smp.prev = x ∧ (tickHead p x s).smp.prevValid = true := by
  by_cases h : s.smp.prevValid = false ∨ s.smp.prev = x
  · rw [tickHead_smp_quiet hm h]; exact ⟨rfl, rfl⟩
  · rw [not_or, Bool.not_eq_false] at h
    rw [tickHead_smp_active hm h.1 h.2]; exact ⟨rfl, h.1⟩

end Unmasked

/-- The sampler clears every EMITTED in a tick with activity (R127). -/
theorem tickHead_slots_active {p : Profile} {x : Sample} {s : State} (hm : ¬(s.cfg.topology = 0 ∧ s.out.dspOe = true))
    (hv : s.smp.prevValid = true) (hne : s.smp.prev ≠ x) (b : ButtonId) :
    (tickHead p x s).slots.get b = { s.slots.get b with emitted := false } := by
  rw [← masked_iff, Bool.not_eq_true] at hm
  rw [tickHead_of_activity p x hm hv ((lineChanged_iff _ _).mpr hne), PerButton.get_ofFn]

theorem tickHead_slots_quiet {p : Profile} {x : Sample} {s : State}
    (h : ¬(¬(s.cfg.topology = 0 ∧ s.out.dspOe = true) ∧ s.smp.prevValid = true ∧ s.smp.prev ≠ x)) :
    (tickHead p x s).slots = s.slots := by
  rw [← masked_iff, Bool.not_eq_true] at h
  cases hm : isFourWire s && s.out.dspOe with
  | true => rw [tickHead_of_masked p x hm]
  | false =>
    cases hv : s.smp.prevValid with
    | false => rw [tickHead_of_history p x hm hv]
    | true =>
      have hc : lineChanged s.smp.prev x = false :=
        Bool.eq_false_iff.mpr fun hc => h ⟨hm, hv, (lineChanged_iff _ _).mp hc⟩
      rw [tickHead_of_quiet p x hm hv hc]

/-- A bus event touches no slot. -/
theorem exec_busEvent_slots {e : BitVec 5} {s t : State} (h : exec (decode (.busEvent e)) s = .next t) : t.slots = s.slots := by
  obtain ⟨f, hf, hexec⟩ := exec_busEvent e
  obtain ⟨-, rfl⟩ | ⟨p, -, -, rfl⟩ := decoderStep_next ((hexec s).symm.trans h)
  · rfl
  · simp only [hf.fields]

/-- Settles O39: phase 1 decides the sampler's state by its kind of tick, and the output update sets BUS_IDLE. -/
theorem samplerStateAfterATick : Obligations.SamplerStateAfterATick := by
  intro s p x rest hdue masked quieter active s1
  obtain ⟨f, hf, -, hstep⟩ := step_tickDue hdue
  have hsmp := tickWith_smp hf p x (takeInput rest s)
  have hquieter : quieter = satInc32 s.smp.quietCnt := (satInc32_eq _).symm
  refine ⟨⟨_, hstep, fun hm => ?masked, fun hm => ?unmasked⟩, fun b => ⟨fun ha => ?active, fun ha => ?quiet⟩,
    fun e s2 h => exec_busEvent_slots h, fun u => by simp⟩
  case masked =>
    rw [hsmp, (tickHead_masked p x (takeInput rest s)).mpr hm, tickHead_smp_masked (s := takeInput rest s) hm, hquieter]
    rfl
  case unmasked =>
    obtain ⟨hprev, hvalid⟩ := tickHead_smp_history (p := p) (x := x) (s := takeInput rest s) hm
    have hnot : (tickHead p x (takeInput rest s)).sig.masked = false :=
      Bool.eq_false_iff.mpr fun h => hm ((tickHead_masked p x (takeInput rest s)).mp h)
    rw [hsmp]
    refine ⟨hprev, hvalid, fun hv hne => ?_, fun h => ?_, ?_⟩
    · exact congrArg SamplerState.quietCnt (tickHead_smp_active (s := takeInput rest s) hm hv hne)
    · exact (congrArg SamplerState.quietCnt (tickHead_smp_quiet (s := takeInput rest s) hm h)).trans hquieter.symm
    · simp [hnot, Profile.asserted]
  case active =>
    obtain ⟨hm, hv, hne⟩ := ha
    exact tickHead_slots_active (s := takeInput rest s) hm hv hne b
  case quiet => exact congrArg (PerButton.get · b) (tickHead_slots_quiet (s := takeInput rest s) ha)

/-! ### The outputs after a tick (R235, R266, R267, R292) -/

theorem tickWith_out {f : Profile → State → State} (hf : DecoderMove f) (p : Profile) (x : Sample) (s : State) :
    (tickWith f p x s).out =
      { dspCs := serCs p (tickWith f p x s).ser, dspClk := serClk p (tickWith f p x s).ser,
        dspDat := serDat (tickWith f p x s).ser,
        dspOe := if s.cfg.topology = 0 then (tickWith f p x s).ser.state != .idle else true, audioMute := false } := by
  rw [tickWith, tickTail_out]
  simp [hf.fields]

/-- Settles O49: the output update loads the levels of the serializer's state. -/
theorem outputsFollowTheSerializer : Obligations.OutputsFollowTheSerializer := by
  intro s p x rest hdue kOn
  obtain ⟨f, hf, -, hstep⟩ := step_tickDue hdue
  refine ⟨_, hstep, ?_⟩
  rw [tickWith_out hf]
  refine ⟨rfl, fun h4 => ?_, fun h6 => if_neg h6, fun hs => ?_, fun hs => ?_, fun hs => ?_, fun hs => ?_, fun hs => ?_⟩
  · rw [← bne_iff_ne]
    exact (congrArg (· = true) (if_pos h4)).to_iff
  all_goals
    simp only [serCs, serClk, serDat, serBit, hs, true_and, and_true]
    rfl

/-! ### The slots through a tick -/

/-- No slot that was Empty holds a command. -/
abbrev NoNewCommand (s t : State) : Prop := ∀ b, (s.slots.get b).state = .empty → (t.slots.get b).state = .empty

theorem noNewCommand_gate (s : State) : NoNewCommand s (gate s) := by
  intro b hb
  rw [gate_slot]
  split
  · exact hb
  · rfl

theorem noNewCommand_expire (p : Profile) (s : State) : NoNewCommand s (expire p s) := by
  intro b hb
  rw [expire_slot]
  split
  · rfl
  · exact hb

theorem noNewCommand_drain (p : Profile) (s : State) : NoNewCommand s (drain p s) := by
  intro b hb
  rw [drain_slot]
  split
  · rw [drainedSlot, hb]; exact hb
  · exact hb

theorem noNewCommand_timeout (p : Profile) (c : Option ButtonId) (s : State) : NoNewCommand s (timeout p c s) := by
  intro b hb
  rw [timeout_slot]
  split
  · rfl
  · exact hb

/-- What is Empty after the gate is Empty after phase 3. -/
theorem injector_slot_empty (p : Profile) {s : State} {b : ButtonId} (h : ((gate s).slots.get b).state = .empty) :
    ((injector p s).slots.get b).state = .empty :=
  noNewCommand_timeout p _ _ b (noNewCommand_drain p _ b (noNewCommand_expire p _ b h))

theorem tickWith_slots {f : Profile → State → State} (p : Profile) (x : Sample) (s : State) :
    (tickWith f p x s).slots = (injector p (forward p (detectIdle p x (f p (tickHead p x s))))).slots :=
  tickTail_slots p x _

/-- A tick gives no Empty slot a command. -/
theorem noNewCommand_tickWith {f : Profile → State → State} (hf : DecoderMove f) (p : Profile) (x : Sample) (s : State) :
    NoNewCommand s (tickWith f p x s) := by
  intro b hb
  rw [tickWith_slots]
  refine injector_slot_empty p (noNewCommand_gate _ b ?_)
  simp only [forward_frame, detectIdle_frame, hf.fields]
  rw [tickHead_slot]
  exact hb

/-- Settles O60: the gate empties the slot, and no later phase fills it. -/
theorem disabledButtonsHoldNoCommand : Obligations.DisabledButtonsHoldNoCommand := by
  intro s p x rest b hdue hoff
  obtain ⟨f, hf, -, hstep⟩ := step_tickDue hdue
  refine ⟨_, hstep, ?_⟩
  rw [tickWith_slots]
  refine injector_slot_empty p ?_
  rw [gate_slot, if_neg]
  simpa [hf.fields, maskBit] using hoff

end Sys2Proof.Machine
end

section
/-! Every completed step in one inversion (R4, R76): a reset, a tick, a clock edge outside Running, a host operation, or nothing but the
outside world's move; and the rules of the whole machine that follow case by case. -/

namespace Sys2Proof.Machine

/-! ### The cases of a step -/

/-- The state `s` with the outside world at `e`. -/
abbrev withEnv (e : Environment) (s : State) : State := { s with env := e }

/-- What a host operation that completes has done, told by its word where it is one of the three that `Effect` leaves out. -/
theorem exec_host_next {op : OpWord} {s t : State} (hop : ∀ b, op ≠ .busEvent b) (h : exec (decode op) s = .next t) :
    Effect s t ∨ (∃ w : Word, op = .hostWrite (0x024#12 ++ w) ∧ t = deliveredWrite w s)
      ∨ (∃ w : Word, op = .hostWrite (0x028#12 ++ w) ∧ t = failedWrite w s)
      ∨ ∃ w : Word, op = .hostWrite (0x02C#12 ++ w) ∧ t = takeSnapshot s := by
  have henc : encode (decode op) = op := (encodeOfDecodeIsIdentity op).1
  obtain heff | ⟨w, hi, ht⟩ | ⟨w, hi, ht⟩ | ⟨w, hi, ht⟩ | ⟨e, f, he, -, -⟩ := exec_next h
  · exact .inl heff
  · exact .inr (.inl ⟨w, by rw [← henc, hi]; rfl, ht⟩)
  · exact .inr (.inr (.inl ⟨w, by rw [← henc, hi]; rfl, ht⟩))
  · exact .inr (.inr (.inr ⟨w, by rw [← henc, hi]; rfl, ht⟩))
  · exact absurd (henc.symm.trans he) (hop e)

/-- What a completed step has done. -/
inductive StepCase (s : State) : State → Prop
  /-- A clock edge with RST asserted (R330). -/
  | reset (e : Environment) (hc : Clocked s) (hr : s.env.rst = true) : StepCase s (withEnv e State.reset)
  /-- A clock edge outside Running (R273). -/
  | stoppedTick (e : Environment) (hc : Clocked s) (hr : s.env.rst = false) (hs : s.run.isRunning = false) :
    StepCase s (withEnv e s)
  /-- A Running tick (R250). -/
  | tick (p : Profile) (f : Profile → State → State) (x : Sample) (e : Environment) (hc : Clocked s)
    (hr : s.env.rst = false) (hrun : s.run = .running p) (hset : s.dec.state.settled = true) (hf : DecoderMove f) :
    StepCase s (tickWith f p x (withEnv e s))
  /-- A change of RST, or a transaction under reset. -/
  | outside (e : Environment) (hc : ¬Clocked s) : StepCase s (withEnv e s)
  /-- A host operation but the three that follow. -/
  | host {t : State} (e : Environment) (hc : ¬Clocked s) (hr : s.env.rst = false) (heff : Effect (withEnv e s) t) : StepCase s t
  /-- WR DELIVERED (R288). -/
  | delivered (e : Environment) (w : Word) (rest : List Input) (hc : ¬Clocked s) (hr : s.env.rst = false)
    (hp : s.env.pending = .write 4 (0x024#12 ++ w) :: rest) : StepCase s (deliveredWrite w (withEnv e s))
  /-- WR FAILED (R289). -/
  | failed (e : Environment) (w : Word) (rest : List Input) (hc : ¬Clocked s) (hr : s.env.rst = false)
    (hp : s.env.pending = .write 4 (0x028#12 ++ w) :: rest) : StepCase s (failedWrite w (withEnv e s))
  /-- WR SNAP (R174). -/
  | snap (e : Environment) (w : Word) (rest : List Input) (hc : ¬Clocked s) (hr : s.env.rst = false)
    (hp : s.env.pending = .write 4 (0x02C#12 ++ w) :: rest) : StepCase s (takeSnapshot (withEnv e s))

theorem stepCase_of_step {s t : State} (h : step s = .next t) : StepCase s t := by
  obtain ⟨hc, x, e, ⟨hr, rfl⟩ | ⟨hr, -, htick⟩⟩ | ⟨hc, e, -, rfl | ⟨hr, op, rest, hop, hpend, hexec⟩⟩ := step_next h
  · exact .reset e hc hr
  · obtain ⟨hs, rfl⟩ | ⟨p, f, hrun, hset, hf, rfl⟩ := stepTick_next htick
    · exact .stoppedTick e hc hr hs
    · exact .tick p f x e hc hr hrun hset hf
  · exact .outside e hc
  · have hwrite : ∀ v, op = .hostWrite v → s.env.pending = .write 4 v :: rest := by
      rintro v rfl
      obtain ⟨v', hv, hp⟩ | ⟨off, ho, -⟩ := hpend
      · rwa [OpWord.hostWrite.inj hv]
      · cases ho
    obtain heff | ⟨w, hw, rfl⟩ | ⟨w, hw, rfl⟩ | ⟨w, hw, rfl⟩ := exec_host_next hop hexec
    · exact .host e hc hr heff
    · exact .delivered e w rest hc hr (hwrite _ hw)
    · exact .failed e w rest hc hr (hwrite _ hw)
    · exact .snap e w rest hc hr (hwrite _ hw)

/-! ### What a host operation leaves -/

/-- No host operation but SNAP touches the snapshot, and none the live bank, the decoder, NOW, the serializer, the sampler or the
outputs (R170). -/
theorem Effect.frame {s t : State} (h : Effect s t) :
    t.bank = s.bank ∧ t.dec = s.dec ∧ t.now = s.now ∧ t.ser = s.ser ∧ t.smp = s.smp ∧ t.out = s.out ∧ t.snap = s.snap
      ∧ t.delivered = s.delivered ∧ t.sig = s.sig := by
  cases h <;> simp

/-- Of the host's operations only those on CFG and CTRL touch the configuration or RUN_STATE, and they only in
Config (R280, R285). -/
theorem Effect.run_cfg {s t : State} (h : Effect s t) (hrun : s.run ≠ .config) : t.run = s.run ∧ t.cfg = s.cfg := by
  cases h with
  | cfg w => rw [cfgWrite_elsewhere w hrun]; exact ⟨rfl, rfl⟩
  | ctrl w => rw [ctrlWrite, start_elsewhere hrun, ite_self]; exact ⟨rfl, rfl⟩
  | _ => simp

theorem Effect.failed {s t : State} (h : Effect s t) {i : Nat} (hi : s.failed.getLsbD i = true) : t.failed.getLsbD i = true := by
  have henq : ∀ b k, (enqueue b k s).failed.getLsbD i = true := fun b k => by
    unfold enqueue
    split
    · exact hi
    · simp [raise_delivery, hi]
  cases h with
  | press b => exact henq b _
  | hold b => exact henq b _
  | _ => simpa using hi

/-! ### NOW (R37, R251) -/

/-- Settles O52. -/
theorem nowCountsRunningTicks : Obligations.NowCountsRunningTicks := by
  intro s t hstep clocked
  have hsame (h : ¬(clocked ∧ s.env.rst = true)) (h' : ¬(clocked ∧ s.env.rst = false ∧ s.run.isRunning = true))
      (ht : t.now = s.now) :
      (clocked → s.env.rst = true → t.now = 0)
        ∧ (clocked → s.env.rst = false → s.run.isRunning = true → t.now = s.now + 1)
        ∧ (clocked → s.env.rst = false → s.run.isRunning = false → t.now = s.now) ∧ (¬clocked → t.now = s.now) :=
    ⟨fun hc hr => absurd ⟨hc, hr⟩ h, fun hc hr hs => absurd ⟨hc, hr, hs⟩ h', fun _ _ _ => ht, fun _ => ht⟩
  cases stepCase_of_step hstep with
  | reset e hc hr => exact ⟨fun _ _ => rfl, by simp [hr], by simp [hr], fun h => absurd hc h⟩
  | stoppedTick e hc hr hs => exact hsame (by simp [hr]) (by simp [hs]) rfl
  | tick p f x e hc hr hrun hset hf =>
    exact ⟨by simp [hr], fun _ _ _ => tickWith_now hf p x _, by simp [hrun, RunState.isRunning], fun h => absurd hc h⟩
  | outside e hc => exact hsame (fun h => hc h.1) (fun h => hc h.1) rfl
  | host e hc hr heff =>
    obtain ⟨-, -, hnow, -⟩ := heff.frame
    exact hsame (fun h => hc h.1) (fun h => hc h.1) hnow
  | delivered e w rest hc | failed e w rest hc | snap e w rest hc => exact hsame (fun h => hc h.1) (fun h => hc h.1) rfl

/-! ### The profile and the configuration (R280, R283, R284) -/

theorem startProfile_eq_some {t : BitVec 2} {m : BitVec 8} {p : Profile} (h : startProfile t m = some p) :
    lookupProfile t m = some p ∧ p.wf = true := by
  rw [startProfile_eq, Option.bind_eq_some_iff] at h
  obtain ⟨q, hq, hif⟩ := h
  split at hif
  next hwf => rw [← Option.some.inj hif]; exact ⟨hq, hwf⟩
  · cases hif

/-- A block that START has made Running latched the profile of its configuration. -/
theorem run_start_of_config {s : State} {p : Profile} (hconfig : s.run = .config) (hp : (start s).run = .running p) :
    startProfile s.cfg.topology s.cfg.model = some p := by
  rw [start_config hconfig] at hp
  cases h : startProfile s.cfg.topology s.cfg.model with
  | none => rw [h] at hp; cases hp
  | some q => rw [h] at hp; rw [RunState.running.inj hp]

/-- A block that a host operation has made Running was Running before, or started. -/
theorem Effect.run_of_config {s t : State} (h : Effect s t) (hconfig : s.run = .config) {p : Profile} (hp : t.run = .running p) :
    t = start s := by
  cases h with
  | ctrl w =>
    cases hbit : w.getLsbD 0 with
    | true => exact ctrlWrite_start hbit s
    | false => rw [ctrlWrite_noStart hbit, hconfig] at hp; cases hp
  | _ => simp [hconfig] at hp

theorem Effect.profileAgrees {s t : State} (h : Effect s t) (hs : ProfileAgrees s) : ProfileAgrees t := by
  intro p hp
  by_cases hconfig : s.run = .config
  · obtain rfl := h.run_of_config hconfig hp
    simpa using (startProfile_eq_some (run_start_of_config hconfig hp)).1
  · obtain ⟨hrun, hcfg⟩ := h.run_cfg hconfig
    rw [hcfg]
    exact hs p (hrun ▸ hp)

/-- Settles O55: RUN_STATE and CFG change together only by START and in Config. -/
theorem profileIsLatched : Obligations.ProfileIsLatched := by
  intro s t hstep
  cases stepCase_of_step hstep with
  | reset e hc hr => exact ⟨fun _ p hp => RunState.noConfusion hp, fun h => Bool.noConfusion (hr.symm.trans h)⟩
  | stoppedTick e hc hr hs => exact ⟨id, fun _ _ => ⟨rfl, rfl⟩⟩
  | tick p f x e hc hr hrun hset hf =>
    obtain ⟨hrun', hcfg', -⟩ := tickWith_frame hf p x (withEnv e s)
    refine ⟨fun hs q hq => ?_, fun _ _ => ⟨hrun', hcfg'⟩⟩
    rw [hcfg']
    exact hs q (hrun' ▸ hq)
  | outside e hc => exact ⟨id, fun _ _ => ⟨rfl, rfl⟩⟩
  | host e hc hr heff =>
    exact ⟨heff.profileAgrees, fun _ hrunning => heff.run_cfg fun (hconfig : s.run = .config) => by
      rw [hconfig] at hrunning; cases hrunning⟩
  | delivered e w | failed e w | snap e w => exact ⟨id, fun _ _ => ⟨rfl, rfl⟩⟩

/-- Settles O56: in ConfigError no clock edge ticks and no host operation starts or writes the configuration. -/
theorem configErrorIsTerminal : Obligations.ConfigErrorIsTerminal := by
  intro s t hstep hrst herr
  have hoe (h : Inv s) : s.out.dspOe = false := by
    rw [(h.stopped (by rw [herr]; rfl)).out]; rfl
  cases stepCase_of_step hstep with
  | reset e hc hr => rw [hrst] at hr; cases hr
  | tick p f x e hc hr hrun => rw [herr] at hrun; cases hrun
  | host e hc hr heff =>
    obtain ⟨hrun, hcfg⟩ := heff.run_cfg (show s.run ≠ .config by rw [herr]; exact RunState.noConfusion)
    obtain ⟨-, -, hnow, -, -, hout, -⟩ := heff.frame
    exact ⟨hrun.trans herr, hout, hcfg, hnow, fun h => (congrArg OutputPorts.dspOe hout).trans (hoe h)⟩
  | stoppedTick | outside | delivered | failed | snap => exact ⟨herr, rfl, rfl, rfl, hoe⟩

/-! ### The snapshot, the live bank and the result bits (R43, R78, R81, R170, R307) -/

/-- Settles O57. -/
theorem snapshotChangesOnlyAtSnap : Obligations.SnapshotChangesOnlyAtSnap := by
  intro s t hstep hrst hno
  cases stepCase_of_step hstep with
  | reset e hc hr => rw [hrst] at hr; cases hr
  | tick p f x e hc hr hrun hset hf =>
    obtain ⟨-, -, -, hsnap, -⟩ := tickWith_frame hf p x (withEnv e s)
    exact hsnap
  | host e hc hr heff =>
    obtain ⟨-, -, -, -, -, -, hsnap, -⟩ := heff.frame
    exact hsnap
  | snap e w rest hc hr hp => exact absurd hp (hno 4 w rest)
  | stoppedTick | outside | delivered | failed => rfl

/-- Settles O58. -/
theorem hostNeverWritesTheLiveBank : Obligations.HostNeverWritesTheLiveBank := by
  rintro s t hstep ⟨i, rest, hpend, hi⟩
  have hnc : ¬Clocked s := by
    rintro (h | ⟨x, rest', h⟩)
    · rw [hpend] at h; cases h
    · rw [hpend] at h; exact hi x (List.cons.inj h).1
  cases stepCase_of_step hstep with
  | reset e hc => exact absurd hc hnc
  | stoppedTick e hc => exact absurd hc hnc
  | tick p f x e hc => exact absurd hc hnc
  | host e hc hr heff =>
    obtain ⟨hbank, hdec, hnow, hser, hsmp, hout, -⟩ := heff.frame
    exact ⟨hbank, hdec, hnow, hser, hsmp, hout⟩
  | outside | delivered | failed | snap => exact ⟨rfl, rfl, rfl, rfl, rfl, rfl⟩

/-- No phase of a tick clears a result bit. -/
theorem tickWith_results {f : Profile → State → State} (hf : DecoderMove f) (p : Profile) (x : Sample) (s : State) (i : Nat) :
    (s.delivered.getLsbD i = true → (tickWith f p x s).delivered.getLsbD i = true)
      ∧ (s.failed.getLsbD i = true → (tickWith f p x s).failed.getLsbD i = true) := by
  have hd : (tickWith f p x s).delivered = (injector p (forward p (detectIdle p x (f p (tickHead p x s))))).delivered := by
    simp [tickWith, tickTail]
  have hfl : (tickWith f p x s).failed = (injector p (forward p (detectIdle p x (f p (tickHead p x s))))).failed := by
    simp [tickWith, tickTail]
  rw [hd, hfl]
  exact ⟨fun h => injector_delivered p _ i (by simpa [hf.fields] using h),
    fun h => injector_failed p _ i (by simpa [hf.fields] using h)⟩

/-- An acknowledgement keeps the bits that its word does not name. -/
theorem getLsbD_and_not_of_set {m : ButtonMask} {w : Word} {i : Nat} (hm : m.getLsbD i = true) (hw : w.getLsbD i = false) :
    (m &&& ~~~wordMask w).getLsbD i = true := by
  rw [getLsbD_and_not_wordMask m w (BitVec.lt_of_getLsbD hm), hm, hw]; rfl

/-- Settles O59. -/
theorem resultBitsAreSticky : Obligations.ResultBitsAreSticky := by
  intro s t i hstep hrst
  cases stepCase_of_step hstep with
  | reset e hc hr => rw [hrst] at hr; cases hr
  | tick p f x e hc hr hrun hset hf =>
    obtain ⟨hd, hfl⟩ := tickWith_results hf p x (withEnv e s) i
    exact ⟨fun h _ => hd h, fun h _ => hfl h⟩
  | host e hc hr heff =>
    obtain ⟨-, -, -, -, -, -, -, hd, -⟩ := heff.frame
    exact ⟨fun h _ => hd ▸ h, fun h _ => heff.failed h⟩
  | delivered e w rest hc hr hp => exact ⟨fun h hw => getLsbD_and_not_of_set h (hw 4 w rest hp), fun h _ => h⟩
  | failed e w rest hc hr hp => exact ⟨fun h _ => h, fun h hw => getLsbD_and_not_of_set h (hw 4 w rest hp)⟩
  | stoppedTick | outside | snap => exact ⟨fun h _ => h, fun h _ => h⟩

end Sys2Proof.Machine
end

section
/-! The serializer over a step (R240, R257, R258): a transmission in progress only advances, and a tick that finds the serializer Idle
starts at most one, the re-encode before a command and a command before the keep-alive. -/

namespace Sys2Proof.Machine

/-- The serializer as a transmission from `src` has just started (R231). -/
abbrev JustStarted (p : Profile) (src : SerSource) (r : Serializer) : Prop :=
  r.state = .lead ∧ r.timer = BitVec.ofNat 32 p.tLead ∧ r.idx = 0 ∧ r.src = src

/-- The slot has nothing left to send in this idle window. -/
abbrev NothingToSend (k : Slot) : Prop := k.state = .empty ∨ (k.state = .holding ∧ k.emitted = true)

theorem tickTail_justStarted {p : Profile} {x : Sample} {u : State} {src : SerSource}
    (h : Started p src (hibernate p (injector p (forward p (detectIdle p x u))))) :
    JustStarted p src (tickTail p x u).ser := by
  rw [tickTail_started h]
  obtain ⟨hstate, htimer, hidx, hsrc, -⟩ := h
  exact ⟨hstate, htimer, hidx, hsrc⟩

/-- The later phases leave an Idle serializer or start one transmission; without the re-encode none was owed from before in a
6-wire topology, and with the keep-alive no slot has anything to send (R257). -/
theorem tickTail_of_idle {p : Profile} {x : Sample} {u : State} (hidle : u.ser.state = .idle) (hnew : u.sig.serNew = false) :
    ((tickTail p x u).ser = u.ser ∧ (u.cfg.topology = 0 ∨ u.rePending = false))
      ∨ JustStarted p .re (tickTail p x u).ser
      ∨ (JustStarted p .cmd (tickTail p x u).ser ∧ (u.cfg.topology = 0 ∨ u.rePending = false))
      ∨ (JustStarted p .ka (tickTail p x u).ser ∧ (u.cfg.topology = 0 ∨ u.rePending = false)
        ∧ ∀ b, NothingToSend ((tickTail p x u).slots.get b)) := by
  obtain ⟨hser1, hnew1, hnone⟩ | hre := forward_free (p := p) (s := detectIdle p x u) hidle
  swap
  · exact .inr (.inl (tickTail_justStarted hre.injector.hibernate))
  obtain ⟨hser2, hnew2, hgrant⟩ | hcmd := injector_free p (forward p (detectIdle p x u))
  swap
  · exact .inr (.inr (.inl ⟨tickTail_justStarted hcmd.hibernate, hnone⟩))
  obtain ⟨hser3, hnew3⟩ | ⟨hka, -, hline⟩ := hibernate_free p (injector p (forward p (detectIdle p x u)))
  · refine .inl ⟨?_, hnone⟩
    have hser := hser3.trans (hser2.trans hser1)
    have hnot : (hibernate p (injector p (forward p (detectIdle p x u)))).sig.serNew = false :=
      hnew3.trans (hnew2.trans (hnew1.trans hnew))
    rw [tickTail_ser, advance, hnot, hser]
    exact serAdvance_idle hidle
  · refine .inr (.inr (.inr ⟨tickTail_justStarted hka, hnone, fun b => ?_⟩))
    have hwin : idleWin (expire p (gate (forward p (detectIdle p x u)))) = true := by
      rw [(injector_sig p _).1] at hline
      simp only [idleWin_iff, expire_frame, gate_frame, hser1]
      exact ⟨hline, hidle⟩
    rw [tickTail_slots]
    exact injector_slot_of_no_grant b hwin hgrant

/-- The decoder's move finds the serializer as the tick did, with no transmission started in it. -/
theorem move_ser {f : Profile → State → State} (hf : DecoderMove f) (p : Profile) (x : Sample) (s : State) :
    (f p (tickHead p x s)).ser = s.ser ∧ (f p (tickHead p x s)).sig.serNew = false
      ∧ (f p (tickHead p x s)).cfg = s.cfg ∧ (f p (tickHead p x s)).rePending = s.rePending := by
  simp [hf.fields, hf.sig]

/-- Short of a reset only the tick of a Running block moves the serializer. -/
theorem step_ser {s t : State} (hstep : step s = .next t) (hrst : s.env.rst = false) :
    ((∀ p, s.run = .running p → ¬Clocked s) ∧ t.ser = s.ser)
      ∨ ∃ p f x e, s.run = .running p ∧ Clocked s ∧ DecoderMove f ∧ t = tickWith f p x (withEnv e s) := by
  cases stepCase_of_step hstep with
  | reset e hc hr => rw [hrst] at hr; cases hr
  | stoppedTick e hc hr hs => exact .inl ⟨fun p hp => by (rw [hp] at hs; cases hs), rfl⟩
  | tick p f x e hc hr hrun hset hf => exact .inr ⟨p, f, x, e, hrun, hc, hf, rfl⟩
  | host e hc hr heff =>
    obtain ⟨-, -, -, hser, -⟩ := heff.frame
    exact .inl ⟨fun _ _ => hc, hser⟩
  | outside e hc | delivered e w rest hc | failed e w rest hc | snap e w rest hc => exact .inl ⟨fun _ _ => hc, rfl⟩

/-- What O47 says of a tick that finds the serializer Idle, by the four ways it can end. -/
theorem tickWith_of_idle {f : Profile → State → State} {p : Profile} {x : Sample} {s t : State} (hf : DecoderMove f)
    (ht : t = tickWith f p x s) (hidle : s.ser.state = .idle) :
    (t.ser = s.ser ∨ (t.ser.state = .lead ∧ t.ser.timer = BitVec.ofNat 32 p.tLead ∧ t.ser.idx = 0 ∧ t.ser.src ≠ .none))
      ∧ (s.cfg.topology ≠ 0 → s.rePending = true → t.ser.state = .lead ∧ t.ser.src = .re)
      ∧ (t.ser.state = .lead → t.ser.src = .ka → ∀ b, NothingToSend (t.slots.get b)) := by
  obtain ⟨hser, hnew, hcfg, hre⟩ := move_ser hf p x s
  have hfree := tickTail_of_idle (p := p) (x := x) (hser ▸ hidle) hnew
  rw [hser, hcfg, hre, ← tickWith, ← ht] at hfree
  have hno (hnone : s.cfg.topology = 0 ∨ s.rePending = false) (hsix : s.cfg.topology ≠ 0) (hp : s.rePending = true) : False := by
    rw [hnone.resolve_left hsix] at hp; cases hp
  obtain ⟨ht, hnone⟩ | hst | ⟨hst, hnone⟩ | ⟨hst, hnone, hslots⟩ := hfree
  · exact ⟨.inl ht, fun hsix hp => (hno hnone hsix hp).elim, fun hl => by rw [ht, hidle] at hl; cases hl⟩
  all_goals obtain ⟨hstate, htimer, hidx, hsrc⟩ := hst
  · exact ⟨.inr ⟨hstate, htimer, hidx, by rw [hsrc]; exact SerSource.noConfusion⟩, fun _ _ => ⟨hstate, hsrc⟩,
      fun _ hka => by rw [hsrc] at hka; cases hka⟩
  · exact ⟨.inr ⟨hstate, htimer, hidx, by rw [hsrc]; exact SerSource.noConfusion⟩, fun hsix hp => (hno hnone hsix hp).elim,
      fun _ hka => by rw [hsrc] at hka; cases hka⟩
  · exact ⟨.inr ⟨hstate, htimer, hidx, by rw [hsrc]; exact SerSource.noConfusion⟩, fun hsix hp => (hno hnone hsix hp).elim,
      fun _ _ => hslots⟩

/-- Settles O47: no step but a tick touches the serializer; a tick advances a busy one and starts at most one transmission on an
Idle one. -/
theorem transmissionIsNeverInterrupted : Obligations.TransmissionIsNeverInterrupted := by
  intro s t hstep hrst clocked
  obtain ⟨hno, hser⟩ | ⟨q, f, x, e, hq, hc, hf, ht⟩ := step_ser hstep hrst
  · exact ⟨fun _ p hp hc => absurd hc (hno p hp), fun _ => hser, fun _ p hp hc => absurd hc (hno p hp)⟩
  · refine ⟨fun hbusy p hp _ => ?busy, fun h => ?stopped, fun hidle p hp _ => ?idle⟩
    case busy =>
      obtain rfl := RunState.running.inj (hp.symm.trans hq)
      obtain ⟨hser, hnew, -⟩ := move_ser hf p x (withEnv e s)
      rw [ht, tickWith, tickTail_busy (by rw [hser]; exact hbusy) hnew, hser]
    case stopped =>
      obtain hstop | hnc := h
      · rw [hq] at hstop; cases hstop
      · exact absurd hc hnc
    case idle =>
      obtain rfl := RunState.running.inj (hp.symm.trans hq)
      exact tickWith_of_idle (s := withEnv e s) hf ht hidle

end Sys2Proof.Machine
end

section
/-! The invariant of every tick boundary (R31, R34, R47, R144, R151, R192, R232, R262, R267, R292, R331): it holds after reset, the
decoder's move keeps the decoder's and the bank's part, the later phases keep the slots' and the serializer's, and a host operation
keeps the whole; and while the host keeps the port's contract no step stops. -/

namespace Sys2Proof.Machine

/-! ### Blocks that are not Running -/

/-- Outside Running the invariant says that the state is at its reset values but for the registers the host writes. -/
theorem StoppedInv.inv {s : State} (h : StoppedInv s) (hrun : s.run.isRunning = false) (hsig : s.sig = TickSignals.none) :
    Inv s where
  settled := by rw [h.dec]; rfl
  signals := hsig
  cause := by rw [h.dec]; decide
  mute := by rw [h.out]; rfl
  validity := by rw [h.bank]; rfl
  running p hp := by rw [hp] at hrun; cases hrun
  stopped _ := h

theorem stoppedInv_reset (e : Environment) : StoppedInv (withEnv e State.reset) where
  out := rfl
  now := rfl
  dec := rfl
  bank := rfl
  ser := rfl
  slots b := by cases b <;> rfl

theorem inv_reset (e : Environment) : Inv (withEnv e State.reset) := (stoppedInv_reset e).inv rfl rfl

/-- Settles O53. -/
theorem invariantHoldsAtReset : Obligations.InvariantHoldsAtReset := inv_reset State.reset.env

/-! ### The decoder and the live bank -/

/-- The decoder's and the live bank's part of the invariant, for the profile `p`. -/
structure DecoderInv (p : Profile) (d : FrameState) (k : FieldBank) : Prop where
  settled : d.state.settled = true
  cause : d.errCause ≠ 3
  validity : k.lastUpdateValid = k.lastFrameValid
  bits : d.state = .accumulating → d.bitCnt.toNat < p.frameBitCount
  bank : k.lastFrameValid = true → BankInv p k

theorem Inv.decoderInv {s : State} {p : Profile} (h : Inv s) (hr : RunningInv p s) : DecoderInv p s.dec s.bank :=
  ⟨h.settled, h.cause, h.validity, hr.bits, hr.bank⟩

/-- A frame applied to the bank leaves it in agreement with that frame (R151, R262). -/
theorem bankInv_updateBank (p : Profile) (raw : FrameBits) (t : Word64) (k : FieldBank) :
    BankInv p (updateBank p (p.frame raw) t k) where
  frame := (firstBits_firstBits raw p.frameBitCount).symm
  fields f o w hf := by
    obtain ⟨hraw, hknown⟩ := updateBank_mapped hf (p.frame raw) t k
    exact ⟨hraw, by rw [hknown, hraw]⟩

/-- A complete frame is applied or dropped, and the decoder is Idle again. -/
theorem decoderInv_completeFrame {p : Profile} {s : State} (hcause : s.dec.errCause ≠ 3)
    (hvalid : s.bank.lastUpdateValid = s.bank.lastFrameValid) (hbank : s.bank.lastFrameValid = true → BankInv p s.bank) :
    DecoderInv p (completeFrame p s).dec (completeFrame p s).bank := by
  cases hck : p.checksumPasses (p.frame s.dec.raw) with
  | true =>
    rw [completeFrame_good hck]
    exact ⟨rfl, hcause, rfl, DecoderState.noConfusion, fun _ => bankInv_updateBank p _ _ _⟩
  | false =>
    rw [completeFrame_bad hck]
    exact ⟨rfl, show (2 : BitVec 2) ≠ 3 by decide, hvalid, DecoderState.noConfusion, hbank⟩

theorem DecoderInv.captureBit {p : Profile} {s : State} (h : DecoderInv p s.dec s.bank) (hwf : p.wf = true) (d : Bool)
    (hacc : s.dec.state = .accumulating) : DecoderInv p (captureBit p d s).dec (captureBit p d s).bank := by
  obtain ⟨⟨-, hmax⟩, -⟩ := (wellFormedProfileIsRuleR111 p).mp hwf
  have hshort := h.bits hacc
  have hcnt := toNat_succ_bitCnt hshort hmax
  by_cases hlast : (s.dec.bitCnt + 1).toNat = p.frameBitCount
  · rw [captureBit_last d hlast]
    exact decoderInv_completeFrame h.cause h.validity h.bank
  · rw [captureBit_short d hlast]
    refine ⟨h.settled, h.cause, h.validity, fun _ => ?_, h.bank⟩
    change (s.dec.bitCnt + 1).toNat < p.frameBitCount
    omega

/-- Every move of the decoder keeps its part of the invariant. -/
theorem DecoderMove.decoderInv {f : Profile → State → State} (hf : DecoderMove f) {p : Profile} {s : State}
    (h : DecoderInv p s.dec s.bank) (hwf : p.wf = true) : DecoderInv p (f p s).dec (f p s).bank := by
  obtain ⟨⟨hmin, -⟩, -⟩ := (wellFormedProfileIsRuleR111 p).mp hwf
  cases hf with
  | noChange => exact h
  | csAssert => exact ⟨rfl, h.cause, h.validity, fun _ => hmin, h.bank⟩
  | csDeassert =>
    cases hs : s.dec.state with
    | accumulating =>
      rw [onCsDeassert_accumulating p hs, earlyDeassert_eq]
      exact ⟨rfl, show (1 : BitVec 2) ≠ 3 by decide, h.validity, DecoderState.noConfusion, h.bank⟩
    | idle | complete | invalid => simpa only [onCsDeassert, hs] using h
  | bit d =>
    cases hs : s.dec.state with
    | accumulating => rw [onBit_accumulating d p hs]; exact h.captureBit hwf d hs
    | idle | complete | invalid => simpa only [onBit, hs] using h

/-! ### The slots -/

/-- A slot holds a command only for a button with a code (R192). -/
def SlotsCoded (p : Profile) (s : State) : Prop := ∀ b, (s.slots.get b).state ≠ .empty → (p.buttonCode.get b).isSome = true

theorem SlotsCoded.of_noNewCommand {p : Profile} {s t : State} (h : SlotsCoded p s) (hst : NoNewCommand s t) : SlotsCoded p t :=
  fun b hb => h b fun he => hb (hst b he)

/-- The granted button's slot holds a command. -/
theorem injectionSlot_not_empty {s : State} {b : ButtonId} (h : injectionSlot s = some b) : (s.slots.get b).state ≠ .empty := by
  obtain ⟨-, hel⟩ := injectionSlot_some h
  intro he
  rw [eligible, he] at hel
  cases hel

/-! ### The serializer -/

theorem ofNat_ne_zero_of_le {n : Nat} (h1 : 1 ≤ n) (hn : n ≤ 2 ^ 32 - 1) : BitVec.ofNat 32 n ≠ 0 := by
  intro h
  have := congrArg BitVec.toNat h
  rw [BitVec.toNat_ofNat, Nat.mod_eq_of_lt (by omega)] at this
  exact absurd (this.trans BitVec.toNat_zero) (by omega)

theorem SerInv.of_busy {r : Serializer} (hstate : r.state ≠ .idle) (hsrc : r.src ≠ .none) (htimer : r.timer ≠ 0)
    (hlen : r.len.toNat ≤ 256) (hidx : r.idx.toNat < r.len.toNat) : SerInv r :=
  ⟨fun h => absurd h hstate, fun _ => ⟨hsrc, htimer, hlen, hidx⟩⟩

/-- A transition of a busy serializer, whatever its timer (R233). -/
theorem serInv_serTransition {p : Profile} (hwf : p.wf = true) {r : Serializer} (hbusy : r.state ≠ .idle) (hsrc : r.src ≠ .none)
    (hlen : r.len.toNat ≤ 256) (hidx : r.idx.toNat < r.len.toNat) : SerInv (serTransition p r) := by
  obtain ⟨-, ⟨hhalf1, hhalf⟩, ⟨hlag1, hlag⟩⟩ := serializer_times hwf
  have hthalf := ofNat_ne_zero_of_le hhalf1 hhalf
  cases hs : r.state with
  | idle => exact absurd hs hbusy
  | lead | first =>
    simp only [serTransition, hs]
    exact .of_busy SerState.noConfusion hsrc hthalf hlen hidx
  | second =>
    by_cases hmore : r.idx.toNat + 1 < r.len.toNat
    · rw [serTransition_nextBit hs hmore]
      refine .of_busy SerState.noConfusion hsrc hthalf hlen ?_
      change (r.idx + 1).toNat < r.len.toNat
      bv_omega
    · rw [serTransition_lastBit hs hmore]
      exact .of_busy SerState.noConfusion hsrc (ofNat_ne_zero_of_le hlag1 hlag) hlen hidx
  | lag =>
    simp only [serTransition, hs]
    exact ⟨fun _ => ⟨rfl, rfl⟩, fun h => absurd rfl h⟩

theorem SerInv.serAdvance {p : Profile} (hwf : p.wf = true) {r : Serializer} (h : SerInv r) : SerInv (serAdvance p r) := by
  by_cases hidle : r.state = .idle
  · rwa [serAdvance_idle hidle]
  · obtain ⟨hsrc, htimer, hlen, hidx⟩ := h.busy hidle
    rw [serAdvance_busy hidle]
    split
    · exact serInv_serTransition hwf hidle hsrc hlen hidx
    · exact .of_busy hidle hsrc (fun (h0 : r.timer - 1 = 0) => by bv_omega) hlen hidx

/-- A transmission of 1 to 256 bits that has just started (R231). -/
theorem serInv_startTx {p : Profile} (hwf : p.wf = true) (v : FrameBits) {n : Nat} (h1 : 1 ≤ n) (hn : n ≤ 256) {src : SerSource}
    (hsrc : src ≠ .none) (s : State) : SerInv (startTx p v n src s).ser := by
  obtain ⟨⟨hlead1, hlead⟩, -⟩ := serializer_times hwf
  have hlen : (BitVec.ofNat 9 n).toNat = n := by rw [BitVec.toNat_ofNat, Nat.mod_eq_of_lt (by omega)]
  refine .of_busy SerState.noConfusion hsrc (ofNat_ne_zero_of_le hlead1 hlead) (hlen.trans_le hn) ?_
  exact (Nat.lt_of_lt_of_le Nat.zero_lt_one h1).trans_eq hlen.symm

section Phases

variable {p : Profile} (hwf : p.wf = true) {s : State} (h : SerInv s.ser)
include hwf h

theorem serInv_forward : SerInv (forward p s).ser := by
  obtain ⟨⟨hmin, hmax⟩, -⟩ := (wellFormedProfileIsRuleR111 p).mp hwf
  unfold forward startReencode
  split
  · exact h
  · split
    · exact serInv_startTx hwf _ hmin hmax SerSource.noConfusion (oweReencode s)
    · simpa using h

theorem serInv_injector (hcoded : SlotsCoded p s) : SerInv (injector p s).ser := by
  obtain ⟨-, -, hcodes, -⟩ := (wellFormedProfileIsRuleR111 p).mp hwf
  have hcoded' := (hcoded.of_noNewCommand (noNewCommand_gate s)).of_noNewCommand (noNewCommand_expire p _)
  cases hg : injectionSlot (expire p (gate s)) with
  | none =>
    have hser : (injector p s).ser = s.ser := by simp [injector, drain_none hg]
    rwa [hser]
  | some b =>
    obtain ⟨code, hcode⟩ := Option.isSome_iff_exists.mp (hcoded' b (injectionSlot_not_empty hg))
    obtain ⟨hmin, hmax⟩ := hcodes b code hcode
    have hser : (injector p s).ser = (startTx p (frameOfList code) code.length .cmd (expire p (gate s))).ser := by
      simp [injector, drain_some hg, hcode, startTxCode]
    rw [hser]
    exact serInv_startTx hwf _ hmin (by omega) SerSource.noConfusion _

theorem serInv_hibernate : SerInv (hibernate p s).ser := by
  obtain ⟨-, -, -, ⟨hmin, hmax⟩, -⟩ := (wellFormedProfileIsRuleR111 p).mp hwf
  unfold hibernate emitKeepalive
  split
  · exact serInv_startTx hwf _ hmin (by omega) SerSource.noConfusion (countInactivity s)
  · simpa using h

theorem serInv_advance : SerInv (advance p s).ser := by
  change SerInv (if s.sig.serNew then s.ser else serAdvance p s.ser)
  split
  · exact h
  · exact h.serAdvance hwf

theorem serInv_tickTail (hcoded : SlotsCoded p s) (x : Sample) : SerInv (tickTail p x s).ser := by
  rw [tickTail_ser]
  have hforward := serInv_forward (s := detectIdle p x s) hwf h
  have hslots : SlotsCoded p (forward p (detectIdle p x s)) := by simpa [SlotsCoded] using hcoded
  exact serInv_advance hwf (serInv_hibernate hwf (serInv_injector hwf hforward hslots))

end Phases

/-! ### A Running tick -/

theorem RunningInv.tick {f : Profile → State → State} (hf : DecoderMove f) {p : Profile} {s : State} (x : Sample) (h : Inv s)
    (hr : RunningInv p s) : DecoderInv p (tickWith f p x s).dec (tickWith f p x s).bank ∧ RunningInv p (tickWith f p x s) := by
  obtain ⟨-, hcfg, -⟩ := tickWith_frame hf p x s
  obtain ⟨hdec, hbank⟩ := tickWith_decoder f p x s
  have hmove : DecoderInv p (tickWith f p x s).dec (tickWith f p x s).bank := by
    rw [hdec, hbank]
    refine hf.decoderInv ?_ hr.profile
    simpa using h.decoderInv hr
  have hcoded : SlotsCoded p (f p (tickHead p x s)) := by
    refine SlotsCoded.of_noNewCommand hr.codes fun b hb => ?_
    simp only [hf.fields]
    rw [tickHead_slot]
    exact hb
  have hser : SerInv (f p (tickHead p x s)).ser := by
    obtain ⟨hser, -⟩ := move_ser hf p x s
    exact hser ▸ hr.serializer
  refine ⟨hmove, hr.profile, hcfg ▸ hr.topology, hmove.bits, SlotsCoded.of_noNewCommand hr.codes (noNewCommand_tickWith hf p x s),
    serInv_tickTail hr.profile hser hcoded x, fun h4 => ?_, hmove.bank⟩
  rw [tickWith_out hf]
  exact if_pos (hcfg ▸ h4)

theorem Inv.tick {f : Profile → State → State} (hf : DecoderMove f) {p : Profile} {s : State} (x : Sample) (h : Inv s)
    (hrun : s.run = .running p) : Inv (tickWith f p x s) := by
  obtain ⟨hrun', -⟩ := tickWith_frame hf p x s
  obtain ⟨hdec, hrunning⟩ := RunningInv.tick hf x h (h.running p hrun)
  refine ⟨hdec.settled, rfl, hdec.cause, by rw [tickWith_out hf], hdec.validity, fun q hq => ?_, fun hs => ?_⟩
  · rw [hrun', hrun] at hq
    exact RunState.running.inj hq ▸ hrunning
  · rw [hrun', hrun] at hs
    cases hs

/-! ### A host operation -/

/-- Every slot that holds a command in `t` held one in `s`, or belongs to a button with a code in a Running block. -/
def OnlyCodedCommands (s t : State) : Prop := ∀ b, (t.slots.get b).state ≠ .empty →
  (s.slots.get b).state ≠ .empty ∨ ∃ p, s.run = .running p ∧ (p.buttonCode.get b).isSome = true

theorem onlyCodedCommands_of_slots {s t : State} (h : t.slots = s.slots) : OnlyCodedCommands s t :=
  fun _ hb => .inl (h ▸ hb)

theorem acceptsCommand_code {b : ButtonId} {s : State} (h : acceptsCommand b s = true) :
    ∃ p, s.run = .running p ∧ (p.buttonCode.get b).isSome = true := by
  cases hrun : s.run with
  | running p =>
    simp only [acceptsCommand, hrun, Bool.and_eq_true] at h
    obtain ⟨-, hcode⟩ := h
    exact ⟨p, rfl, hcode⟩
  | config | configError => simp only [acceptsCommand, hrun] at h; cases h

theorem onlyCodedCommands_enqueue (b : ButtonId) (k : SlotState) (s : State) : OnlyCodedCommands s (enqueue b k s) := by
  cases hacc : acceptsCommand b s with
  | false => rw [enqueue_refused hacc]; exact onlyCodedCommands_of_slots rfl
  | true =>
    rw [enqueue_accepted hacc]
    intro c hc
    by_cases hcb : c = b
    · exact .inr (hcb ▸ acceptsCommand_code hacc)
    · rw [PerButton.get_set, if_neg hcb] at hc
      exact .inl hc

theorem onlyCodedCommands_release (b : ButtonId) (s : State) : OnlyCodedCommands s (releaseCommand b s) := by
  intro c hc
  rw [releaseCommand, setSlotState, PerButton.get_set] at hc
  split at hc
  · exact absurd rfl hc
  · exact .inl hc

theorem Effect.onlyCodedCommands {s t : State} (h : Effect s t) : OnlyCodedCommands s t := by
  cases h with
  | press b | hold b => exact onlyCodedCommands_enqueue b _ s
  | release b => exact onlyCodedCommands_release b s
  | _ => exact onlyCodedCommands_of_slots (by simp)

/-- What a step outside a tick keeps, it keeps with the invariant: everything the invariant speaks of but the slots. -/
theorem Inv.congr {s t : State} (h : Inv s) (hrun : t.run = s.run) (hcfg : t.cfg = s.cfg) (hdec : t.dec = s.dec)
    (hbank : t.bank = s.bank) (hnow : t.now = s.now) (hser : t.ser = s.ser) (hout : t.out = s.out) (hsig : t.sig = s.sig)
    (hslots : OnlyCodedCommands s t) : Inv t where
  settled := hdec ▸ h.settled
  signals := hsig.trans h.signals
  cause := hdec ▸ h.cause
  mute := hout ▸ h.mute
  validity := hbank ▸ h.validity
  running p hp := by
    rw [hrun] at hp
    have hr := h.running p hp
    refine ⟨hr.profile, hcfg ▸ hr.topology, hdec ▸ hr.bits, fun b hb => ?_, hser ▸ hr.serializer, ?_, hbank ▸ hr.bank⟩
    · obtain hold | ⟨q, hq, hcode⟩ := hslots b hb
      · exact hr.codes b hold
      · rw [hp] at hq
        exact RunState.running.inj hq ▸ hcode
    · rw [hcfg, hout, hser]
      exact hr.fourWire
  stopped hs := by
    rw [hrun] at hs
    have hstop := h.stopped hs
    refine ⟨hout.trans hstop.out, hnow.trans hstop.now, hdec.trans hstop.dec, hbank.trans hstop.bank, hser.trans hstop.ser,
      fun b => by_contra fun hb => ?_⟩
    obtain hold | ⟨q, hq, -⟩ := hslots b hb
    · exact hold (hstop.slots b)
    · rw [hq] at hs
      cases hs

/-- START from a state at its reset values makes the block Running with a well-formed profile, or fails. -/
theorem Inv.start {s : State} (h : Inv s) (hconfig : s.run = .config) : Inv (start s) := by
  have hstop := h.stopped (by rw [hconfig]; rfl)
  rw [start_config hconfig]
  cases hp : startProfile s.cfg.topology s.cfg.model with
  | none => exact StoppedInv.inv ⟨hstop.out, hstop.now, hstop.dec, hstop.bank, hstop.ser, hstop.slots⟩ rfl h.signals
  | some p =>
    obtain ⟨hlookup, hwf⟩ := startProfile_eq_some hp
    refine ⟨h.settled, h.signals, h.cause, h.mute, h.validity, fun q hq => ?_, fun hs => Bool.noConfusion hs⟩
    obtain rfl := RunState.running.inj hq
    exact
      { profile := hwf
        topology := fun h3 => by rw [show s.cfg.topology = 3 from h3, lookupProfile_reserved] at hlookup; cases hlookup
        bits := fun hacc => by rw [show s.dec = _ from hstop.dec] at hacc; cases hacc
        codes := fun b hb => absurd (hstop.slots b) hb
        serializer := hstop.ser ▸ ⟨fun _ => ⟨rfl, rfl⟩, fun hbusy => absurd rfl hbusy⟩
        fourWire := fun _ => by rw [hstop.out, hstop.ser]; rfl
        bank := fun hv => by rw [hstop.bank] at hv; cases hv }

theorem Inv.effect {s t : State} (h : Inv s) (heff : Effect s t) : Inv t := by
  obtain ⟨hbank, hdec, hnow, hser, -, hout, -, -, hsig⟩ := heff.frame
  by_cases hconfig : s.run = .config
  · cases heff with
    | cfg w =>
      have hstop := h.stopped (by rw [hconfig]; rfl)
      refine StoppedInv.inv ⟨hout.trans hstop.out, hnow.trans hstop.now, hdec.trans hstop.dec, hbank.trans hstop.bank,
        hser.trans hstop.ser, ?_⟩ ?_ (hsig.trans h.signals)
      · simpa using hstop.slots
      · simp [hconfig, RunState.isRunning]
    | ctrl w =>
      cases hbit : w.getLsbD 0 with
      | true => rw [ctrlWrite_start hbit]; exact h.start hconfig
      | false => rwa [ctrlWrite_noStart hbit]
    | press b | hold b | release b | none | status w | btnEnable w | illegal | read v =>
      exact h.congr (by simp) (by simp) hdec hbank hnow hser hout hsig (Effect.onlyCodedCommands (by constructor))
  · obtain ⟨hrun, hcfg⟩ := heff.run_cfg hconfig
    exact h.congr hrun hcfg hdec hbank hnow hser hout hsig heff.onlyCodedCommands

/-- Settles O54. -/
theorem stepKeepsInvariant : Obligations.StepKeepsInvariant := by
  intro s t h hstep
  have henv (e : Environment) : Inv (withEnv e s) :=
    h.congr rfl rfl rfl rfl rfl rfl rfl rfl (onlyCodedCommands_of_slots rfl)
  cases stepCase_of_step hstep with
  | reset e => exact inv_reset e
  | stoppedTick e | outside e => exact henv e
  | tick p f x e hc hr hrun hset hf => exact (henv e).tick hf x hrun
  | host e hc hr heff => exact (henv e).effect heff
  | delivered | failed | snap =>
    exact h.congr rfl rfl rfl rfl rfl rfl rfl rfl (onlyCodedCommands_of_slots rfl)

/-! ### A host that keeps the port's contract (R72, R306) -/

/-- A transaction whose operation completes is completed, RST asserted or not. -/
theorem completes_stepTransaction {op : OpWord} {s : State} (h : ∃ t, exec (decode op) s = .next t) :
    completes (stepTransaction 4 op s) = true := by
  cases hr : s.env.rst with
  | true => rw [stepTransaction_discarded hr h]; rfl
  | false =>
    obtain ⟨t, ht⟩ := h
    rw [stepTransaction_released hr, ht]; rfl

/-- A clock edge completes where DEC_STATE is Idle or Accumulating. -/
theorem completes_stepClock (x : Sample) {s : State} (hset : s.dec.state.settled = true) :
    completes (stepClock x s) = true := by
  unfold stepClock
  split
  · rfl
  · cases hrun : s.run with
    | running p =>
      obtain ⟨f, -, -, htick⟩ := stepTick_running (x := x) hrun hset
      rw [htick]; rfl
    | config | configError =>
      rw [stepTick_stopped x (by rw [hrun]; rfl)]; rfl

/-- The two low bits of a write's offset. -/
theorem lowBits_offset (t : BitVec 44) : (t.extractLsb' 32 12).extractLsb' 0 2 = t.extractLsb' 32 2 := by
  refine BitVec.eq_of_getLsbD_eq fun i hi => ?_
  simp only [BitVec.getLsbD_extractLsb', hi, decide_true, Bool.true_and, Nat.zero_add]
  simp only [decide_eq_true (Nat.lt_trans hi (by decide : 2 < 12)), Bool.true_and]

theorem completes_runInput {i : Input} {s : State} (hset : s.dec.state.settled = true) (hi : i.inContract = true) :
    completes (runInput i s) = true := by
  cases i with
  | clock x => exact completes_stepClock x hset
  | rst l => rfl
  | read n off =>
    simp only [Input.inContract, Bool.and_eq_true, beq_iff_eq] at hi
    obtain ⟨rfl, haligned⟩ := hi
    exact completes_stepTransaction (exec_aligned_read off haligned s)
  | write n t =>
    simp only [Input.inContract, Bool.and_eq_true, beq_iff_eq] at hi
    obtain ⟨rfl, haligned⟩ := hi
    have hsplit : t.extractLsb' 32 12 ++ t.extractLsb' 0 32 = t := BitVec.extractLsb'_append_extractLsb' (w := 12) (len := 32)
    refine completes_stepTransaction (hsplit ▸ exec_aligned_write (t.extractLsb' 32 12) (t.extractLsb' 0 32) ?_ s)
    exact (lowBits_offset t).trans haligned

/-- Settles O9: the next input is a clock edge of a settled decoder, a change of RST, or a transaction of the contract. -/
theorem nothingStopsAContractKeepingHost : Obligations.NothingStopsAContractKeepingHost := by
  intro s h hcontract
  rw [hostKeepsContract] at hcontract
  unfold step fetch
  cases hpend : s.env.pending with
  | nil => exact completes_runInput h.settled rfl
  | cons i rest =>
    rw [hpend, List.all_cons, Bool.and_eq_true] at hcontract
    obtain ⟨hi, -⟩ := hcontract
    exact completes_runInput h.settled hi

end Sys2Proof.Machine
end
